-- ==== Sys2Proof/Word.lean ====
section
/-! DEFINITION. The words of the machine: bytes, 16-bit words, and the byte images memory is held in. -/

namespace Sys2Proof

/-- A byte: every register, memory byte and data-bus transfer is 8 bits wide (R9). -/
abbrev Byte := BitVec 8

/-- A 16-bit value `u16`: SP, PC, the register pairs and every CPU address (R9, R11). -/
abbrev Word := BitVec 16

/-- A byte image: (address, byte) pairs by rising address, no pair holding what an unlisted address reads as.
The operations and the canonical form are in `Machine/Memory.lean`. -/
abbrev Memory := List Host.Cell

end Sys2Proof
end

