-- ==== Sys2Proof/Machine/Bits.lean ====
section
/-! DEFINITION. Byte order, sign extension and bit fields (R11, R84): the one place each is decided. -/

namespace Sys2Proof

/-- `{hi, lo}` of R11: the 16-bit value whose bits 15..8 are `hi` and 7..0 are `lo`. -/
def wordOf (hi lo : Byte) : Word := hi ++ lo

/-- `v[15:8]`. -/
def hiByte (v : Word) : Byte := v.extractLsb' 8 8

/-- `v[7:0]`. -/
def loByte (v : Word) : Byte := v.extractLsb' 0 8

/-- `sext_8(v)` as a 16-bit two's complement value, so that adding it wraps modulo 65,536 (R11, R162). -/
def sext8 (v : Byte) : Word := v.signExtend 16

/-- The address 0xFF00 + n of the high-page forms (R162). -/
def highPage (n : Byte) : Word := wordOf 0xFF n

/-- A one-bit value as a byte: 1 or 0. -/
def bitByte (b : Bool) : Byte := if b then 1 else 0

end Sys2Proof
end

