-- ==== Sys2Proof/Syntax.lean ====
section
/-! DEFINITION. The instructions: one constructor for each row of spec/opcode_table.json (R169), the primary rows, then the CB rows, each in
the table's order, but for the eleven illegal rows, which stand last.

Names: the mnemonic, then the operands in the order the spec writes them (destination first, R167). `At` marks a memory
operand: `ldAtHlB` is LD (HL),B and `ldAAtC` is LD A,(C). `D8`, `D16`, `A8`, `A16`, `E8` are the immediate forms of R162;
the constructor carries the operand: a byte `n` (d8, a8), a byte `e` (e8, its two's complement), a word `nn` (d16, a16). -/

namespace Sys2Proof

/-- The instruction set: 256 primary rows (R165), then 256 CB rows (R166). -/
inductive Instr where
  -- ---- primary table (R165) ----
  | nop
  | ldBcD16 (nn : Word)
  | ldAtBcA
  | incBc
  | incB
  | decB
  | ldBD8 (n : Byte)
  | rlca
  | ldAtA16Sp (nn : Word)
  | addHlBc
  | ldAAtBc
  | decBc
  | incC
  | decC
  | ldCD8 (n : Byte)
  | rrca
  /-- STOP carries its ignored second byte (R342). -/
  | stop (n : Byte)
  | ldDeD16 (nn : Word)
  | ldAtDeA
  | incDe
  | incD
  | decD
  | ldDD8 (n : Byte)
  | rla
  | jrE8 (e : Byte)
  | addHlDe
  | ldAAtDe
  | decDe
  | incE
  | decE
  | ldED8 (n : Byte)
  | rra
  | jrNzE8 (e : Byte)
  | ldHlD16 (nn : Word)
  | ldAtHlIncA
  | incHl
  | incH
  | decH
  | ldHD8 (n : Byte)
  | daa
  | jrZE8 (e : Byte)
  | addHlHl
  | ldAAtHlInc
  | decHl
  | incL
  | decL
  | ldLD8 (n : Byte)
  | cpl
  | jrNcE8 (e : Byte)
  | ldSpD16 (nn : Word)
  | ldAtHlDecA
  | incSp
  | incAtHl
  | decAtHl
  | ldAtHlD8 (n : Byte)
  | scf
  | jrCE8 (e : Byte)
  | addHlSp
  | ldAAtHlDec
  | decSp
  | incA
  | decA
  | ldAD8 (n : Byte)
  | ccf
  | ldBB
  | ldBC
  | ldBD
  | ldBE
  | ldBH
  | ldBL
  | ldBAtHl
  | ldBA
  | ldCB
  | ldCC
  | ldCD
  | ldCE
  | ldCH
  | ldCL
  | ldCAtHl
  | ldCA
  | ldDB
  | ldDC
  | ldDD
  | ldDE
  | ldDH
  | ldDL
  | ldDAtHl
  | ldDA
  | ldEB
  | ldEC
  | ldED
  | ldEE
  | ldEH
  | ldEL
  | ldEAtHl
  | ldEA
  | ldHB
  | ldHC
  | ldHD
  | ldHE
  | ldHH
  | ldHL
  | ldHAtHl
  | ldHA
  | ldLB
  | ldLC
  | ldLD
  | ldLE
  | ldLH
  | ldLL
  | ldLAtHl
  | ldLA
  | ldAtHlB
  | ldAtHlC
  | ldAtHlD
  | ldAtHlE
  | ldAtHlH
  | ldAtHlL
  | halt
  | ldAtHlA
  | ldAB
  | ldAC
  | ldAD
  | ldAE
  | ldAH
  | ldAL
  | ldAAtHl
  | ldAA
  | addAB
  | addAC
  | addAD
  | addAE
  | addAH
  | addAL
  | addAAtHl
  | addAA
  | adcAB
  | adcAC
  | adcAD
  | adcAE
  | adcAH
  | adcAL
  | adcAAtHl
  | adcAA
  | subB
  | subC
  | subD
  | subE
  | subH
  | subL
  | subAtHl
  | subA
  | sbcAB
  | sbcAC
  | sbcAD
  | sbcAE
  | sbcAH
  | sbcAL
  | sbcAAtHl
  | sbcAA
  | andB
  | andC
  | andD
  | andE
  | andH
  | andL
  | andAtHl
  | andA
  | xorB
  | xorC
  | xorD
  | xorE
  | xorH
  | xorL
  | xorAtHl
  | xorA
  | orB
  | orC
  | orD
  | orE
  | orH
  | orL
  | orAtHl
  | orA
  | cpB
  | cpC
  | cpD
  | cpE
  | cpH
  | cpL
  | cpAtHl
  | cpA
  | retNz
  | popBc
  | jpNzA16 (nn : Word)
  | jpA16 (nn : Word)
  | callNzA16 (nn : Word)
  | pushBc
  | addAD8 (n : Byte)
  | rst00
  | retZ
  | ret
  | jpZA16 (nn : Word)
  /-- The row of the 0xCB prefix (R349) with its second byte. Not an instruction of its own: its words are those of the
  CB rows, to which the decoder reads them (log entry 14). -/
  | prefixCb (op2 : Byte)
  | callZA16 (nn : Word)
  | callA16 (nn : Word)
  | adcAD8 (n : Byte)
  | rst08
  | retNc
  | popDe
  | jpNcA16 (nn : Word)
  | callNcA16 (nn : Word)
  | pushDe
  | subD8 (n : Byte)
  | rst10
  | retC
  | reti
  | jpCA16 (nn : Word)
  | callCA16 (nn : Word)
  | sbcAD8 (n : Byte)
  | rst18
  | ldhAtA8A (n : Byte)
  | popHl
  | ldAtCA
  | pushHl
  | andD8 (n : Byte)
  | rst20
  | addSpE8 (e : Byte)
  | jpHl
  | ldAtA16A (nn : Word)
  | xorD8 (n : Byte)
  | rst28
  | ldhAAtA8 (n : Byte)
  | popAf
  | ldAAtC
  | di
  | pushAf
  | orD8 (n : Byte)
  | rst30
  | ldHlSpE8 (e : Byte)
  | ldSpHl
  | ldAAtA16 (nn : Word)
  | ei
  | cpD8 (n : Byte)
  | rst38
  -- ---- CB table (R166) ----
  | rlcB
  | rlcC
  | rlcD
  | rlcE
  | rlcH
  | rlcL
  | rlcAtHl
  | rlcA
  | rrcB
  | rrcC
  | rrcD
  | rrcE
  | rrcH
  | rrcL
  | rrcAtHl
  | rrcA
  | rlB
  | rlC
  | rlD
  | rlE
  | rlH
  | rlL
  | rlAtHl
  | rlA
  | rrB
  | rrC
  | rrD
  | rrE
  | rrH
  | rrL
  | rrAtHl
  | rrA
  | slaB
  | slaC
  | slaD
  | slaE
  | slaH
  | slaL
  | slaAtHl
  | slaA
  | sraB
  | sraC
  | sraD
  | sraE
  | sraH
  | sraL
  | sraAtHl
  | sraA
  | swapB
  | swapC
  | swapD
  | swapE
  | swapH
  | swapL
  | swapAtHl
  | swapA
  | srlB
  | srlC
  | srlD
  | srlE
  | srlH
  | srlL
  | srlAtHl
  | srlA
  | bit0B
  | bit0C
  | bit0D
  | bit0E
  | bit0H
  | bit0L
  | bit0AtHl
  | bit0A
  | bit1B
  | bit1C
  | bit1D
  | bit1E
  | bit1H
  | bit1L
  | bit1AtHl
  | bit1A
  | bit2B
  | bit2C
  | bit2D
  | bit2E
  | bit2H
  | bit2L
  | bit2AtHl
  | bit2A
  | bit3B
  | bit3C
  | bit3D
  | bit3E
  | bit3H
  | bit3L
  | bit3AtHl
  | bit3A
  | bit4B
  | bit4C
  | bit4D
  | bit4E
  | bit4H
  | bit4L
  | bit4AtHl
  | bit4A
  | bit5B
  | bit5C
  | bit5D
  | bit5E
  | bit5H
  | bit5L
  | bit5AtHl
  | bit5A
  | bit6B
  | bit6C
  | bit6D
  | bit6E
  | bit6H
  | bit6L
  | bit6AtHl
  | bit6A
  | bit7B
  | bit7C
  | bit7D
  | bit7E
  | bit7H
  | bit7L
  | bit7AtHl
  | bit7A
  | res0B
  | res0C
  | res0D
  | res0E
  | res0H
  | res0L
  | res0AtHl
  | res0A
  | res1B
  | res1C
  | res1D
  | res1E
  | res1H
  | res1L
  | res1AtHl
  | res1A
  | res2B
  | res2C
  | res2D
  | res2E
  | res2H
  | res2L
  | res2AtHl
  | res2A
  | res3B
  | res3C
  | res3D
  | res3E
  | res3H
  | res3L
  | res3AtHl
  | res3A
  | res4B
  | res4C
  | res4D
  | res4E
  | res4H
  | res4L
  | res4AtHl
  | res4A
  | res5B
  | res5C
  | res5D
  | res5E
  | res5H
  | res5L
  | res5AtHl
  | res5A
  | res6B
  | res6C
  | res6D
  | res6E
  | res6H
  | res6L
  | res6AtHl
  | res6A
  | res7B
  | res7C
  | res7D
  | res7E
  | res7H
  | res7L
  | res7AtHl
  | res7A
  | set0B
  | set0C
  | set0D
  | set0E
  | set0H
  | set0L
  | set0AtHl
  | set0A
  | set1B
  | set1C
  | set1D
  | set1E
  | set1H
  | set1L
  | set1AtHl
  | set1A
  | set2B
  | set2C
  | set2D
  | set2E
  | set2H
  | set2L
  | set2AtHl
  | set2A
  | set3B
  | set3C
  | set3D
  | set3E
  | set3H
  | set3L
  | set3AtHl
  | set3A
  | set4B
  | set4C
  | set4D
  | set4E
  | set4H
  | set4L
  | set4AtHl
  | set4A
  | set5B
  | set5C
  | set5D
  | set5E
  | set5H
  | set5L
  | set5AtHl
  | set5A
  | set6B
  | set6C
  | set6D
  | set6E
  | set6H
  | set6L
  | set6AtHl
  | set6A
  | set7B
  | set7C
  | set7D
  | set7E
  | set7H
  | set7L
  | set7AtHl
  | set7A
  -- ---- the eleven illegal rows of the primary table (R163, R165) ----
  | illegalD3
  | illegalDB
  | illegalDD
  | illegalE3
  | illegalE4
  | illegalEB
  | illegalEC
  | illegalED
  | illegalF4
  | illegalFC
  | illegalFD
deriving DecidableEq, Repr

end Sys2Proof
end

