-- ==== Sys2Proof/WellFormed.lean ====
section
/-! DEFINITION. Which terms of `Instr` are instructions.

Every operand a constructor carries has exactly the width of its field, so every operand value is admitted (R162).
The one check is on the CB prefix. -/

namespace Sys2Proof

/-- R349, D47: "0xCB and its second byte are one instruction". The prefix row alone is no instruction: its words are
those of the CB table's rows, and the well-formed term for them is the CB row's constructor. -/
def Instr.isPrefixRow : Instr → Bool
  | .prefixCb _ => true
  | _ => false

/-- A term that stands for an instruction as decoded: any constructor but the prefix row. -/
abbrev WellFormed (i : Instr) : Prop := i.isPrefixRow = false

end Sys2Proof
end

