-- ==== Sys2Proof/Decode.lean ====
section
/-! DEFINITION. Decoding bytes to instructions and encoding instructions to bytes (R150 to R166).

The decoder follows the opcode maps R165 and R166 row by row: the high nibble of the opcode byte selects the map's row,
the low nibble its column. The encoder follows the match values of spec/opcode_table.json (R169). -/

namespace Sys2Proof

/-- Row 0x of the CB map (R166), by column. -/
def cbRow0 (lo : Nat) : Instr :=
  match lo with
  | 0x0 => .rlcB
  | 0x1 => .rlcC
  | 0x2 => .rlcD
  | 0x3 => .rlcE
  | 0x4 => .rlcH
  | 0x5 => .rlcL
  | 0x6 => .rlcAtHl
  | 0x7 => .rlcA
  | 0x8 => .rrcB
  | 0x9 => .rrcC
  | 0xA => .rrcD
  | 0xB => .rrcE
  | 0xC => .rrcH
  | 0xD => .rrcL
  | 0xE => .rrcAtHl
  | _ => .rrcA

/-- Row 1x of the CB map (R166), by column. -/
def cbRow1 (lo : Nat) : Instr :=
  match lo with
  | 0x0 => .rlB
  | 0x1 => .rlC
  | 0x2 => .rlD
  | 0x3 => .rlE
  | 0x4 => .rlH
  | 0x5 => .rlL
  | 0x6 => .rlAtHl
  | 0x7 => .rlA
  | 0x8 => .rrB
  | 0x9 => .rrC
  | 0xA => .rrD
  | 0xB => .rrE
  | 0xC => .rrH
  | 0xD => .rrL
  | 0xE => .rrAtHl
  | _ => .rrA

/-- Row 2x of the CB map (R166), by column. -/
def cbRow2 (lo : Nat) : Instr :=
  match lo with
  | 0x0 => .slaB
  | 0x1 => .slaC
  | 0x2 => .slaD
  | 0x3 => .slaE
  | 0x4 => .slaH
  | 0x5 => .slaL
  | 0x6 => .slaAtHl
  | 0x7 => .slaA
  | 0x8 => .sraB
  | 0x9 => .sraC
  | 0xA => .sraD
  | 0xB => .sraE
  | 0xC => .sraH
  | 0xD => .sraL
  | 0xE => .sraAtHl
  | _ => .sraA

/-- Row 3x of the CB map (R166), by column. -/
def cbRow3 (lo : Nat) : Instr :=
  match lo with
  | 0x0 => .swapB
  | 0x1 => .swapC
  | 0x2 => .swapD
  | 0x3 => .swapE
  | 0x4 => .swapH
  | 0x5 => .swapL
  | 0x6 => .swapAtHl
  | 0x7 => .swapA
  | 0x8 => .srlB
  | 0x9 => .srlC
  | 0xA => .srlD
  | 0xB => .srlE
  | 0xC => .srlH
  | 0xD => .srlL
  | 0xE => .srlAtHl
  | _ => .srlA

/-- Row 4x of the CB map (R166), by column. -/
def cbRow4 (lo : Nat) : Instr :=
  match lo with
  | 0x0 => .bit0B
  | 0x1 => .bit0C
  | 0x2 => .bit0D
  | 0x3 => .bit0E
  | 0x4 => .bit0H
  | 0x5 => .bit0L
  | 0x6 => .bit0AtHl
  | 0x7 => .bit0A
  | 0x8 => .bit1B
  | 0x9 => .bit1C
  | 0xA => .bit1D
  | 0xB => .bit1E
  | 0xC => .bit1H
  | 0xD => .bit1L
  | 0xE => .bit1AtHl
  | _ => .bit1A

/-- Row 5x of the CB map (R166), by column. -/
def cbRow5 (lo : Nat) : Instr :=
  match lo with
  | 0x0 => .bit2B
  | 0x1 => .bit2C
  | 0x2 => .bit2D
  | 0x3 => .bit2E
  | 0x4 => .bit2H
  | 0x5 => .bit2L
  | 0x6 => .bit2AtHl
  | 0x7 => .bit2A
  | 0x8 => .bit3B
  | 0x9 => .bit3C
  | 0xA => .bit3D
  | 0xB => .bit3E
  | 0xC => .bit3H
  | 0xD => .bit3L
  | 0xE => .bit3AtHl
  | _ => .bit3A

/-- Row 6x of the CB map (R166), by column. -/
def cbRow6 (lo : Nat) : Instr :=
  match lo with
  | 0x0 => .bit4B
  | 0x1 => .bit4C
  | 0x2 => .bit4D
  | 0x3 => .bit4E
  | 0x4 => .bit4H
  | 0x5 => .bit4L
  | 0x6 => .bit4AtHl
  | 0x7 => .bit4A
  | 0x8 => .bit5B
  | 0x9 => .bit5C
  | 0xA => .bit5D
  | 0xB => .bit5E
  | 0xC => .bit5H
  | 0xD => .bit5L
  | 0xE => .bit5AtHl
  | _ => .bit5A

/-- Row 7x of the CB map (R166), by column. -/
def cbRow7 (lo : Nat) : Instr :=
  match lo with
  | 0x0 => .bit6B
  | 0x1 => .bit6C
  | 0x2 => .bit6D
  | 0x3 => .bit6E
  | 0x4 => .bit6H
  | 0x5 => .bit6L
  | 0x6 => .bit6AtHl
  | 0x7 => .bit6A
  | 0x8 => .bit7B
  | 0x9 => .bit7C
  | 0xA => .bit7D
  | 0xB => .bit7E
  | 0xC => .bit7H
  | 0xD => .bit7L
  | 0xE => .bit7AtHl
  | _ => .bit7A

/-- Row 8x of the CB map (R166), by column. -/
def cbRow8 (lo : Nat) : Instr :=
  match lo with
  | 0x0 => .res0B
  | 0x1 => .res0C
  | 0x2 => .res0D
  | 0x3 => .res0E
  | 0x4 => .res0H
  | 0x5 => .res0L
  | 0x6 => .res0AtHl
  | 0x7 => .res0A
  | 0x8 => .res1B
  | 0x9 => .res1C
  | 0xA => .res1D
  | 0xB => .res1E
  | 0xC => .res1H
  | 0xD => .res1L
  | 0xE => .res1AtHl
  | _ => .res1A

/-- Row 9x of the CB map (R166), by column. -/
def cbRow9 (lo : Nat) : Instr :=
  match lo with
  | 0x0 => .res2B
  | 0x1 => .res2C
  | 0x2 => .res2D
  | 0x3 => .res2E
  | 0x4 => .res2H
  | 0x5 => .res2L
  | 0x6 => .res2AtHl
  | 0x7 => .res2A
  | 0x8 => .res3B
  | 0x9 => .res3C
  | 0xA => .res3D
  | 0xB => .res3E
  | 0xC => .res3H
  | 0xD => .res3L
  | 0xE => .res3AtHl
  | _ => .res3A

/-- Row Ax of the CB map (R166), by column. -/
def cbRowA (lo : Nat) : Instr :=
  match lo with
  | 0x0 => .res4B
  | 0x1 => .res4C
  | 0x2 => .res4D
  | 0x3 => .res4E
  | 0x4 => .res4H
  | 0x5 => .res4L
  | 0x6 => .res4AtHl
  | 0x7 => .res4A
  | 0x8 => .res5B
  | 0x9 => .res5C
  | 0xA => .res5D
  | 0xB => .res5E
  | 0xC => .res5H
  | 0xD => .res5L
  | 0xE => .res5AtHl
  | _ => .res5A

/-- Row Bx of the CB map (R166), by column. -/
def cbRowB (lo : Nat) : Instr :=
  match lo with
  | 0x0 => .res6B
  | 0x1 => .res6C
  | 0x2 => .res6D
  | 0x3 => .res6E
  | 0x4 => .res6H
  | 0x5 => .res6L
  | 0x6 => .res6AtHl
  | 0x7 => .res6A
  | 0x8 => .res7B
  | 0x9 => .res7C
  | 0xA => .res7D
  | 0xB => .res7E
  | 0xC => .res7H
  | 0xD => .res7L
  | 0xE => .res7AtHl
  | _ => .res7A

/-- Row Cx of the CB map (R166), by column. -/
def cbRowC (lo : Nat) : Instr :=
  match lo with
  | 0x0 => .set0B
  | 0x1 => .set0C
  | 0x2 => .set0D
  | 0x3 => .set0E
  | 0x4 => .set0H
  | 0x5 => .set0L
  | 0x6 => .set0AtHl
  | 0x7 => .set0A
  | 0x8 => .set1B
  | 0x9 => .set1C
  | 0xA => .set1D
  | 0xB => .set1E
  | 0xC => .set1H
  | 0xD => .set1L
  | 0xE => .set1AtHl
  | _ => .set1A

/-- Row Dx of the CB map (R166), by column. -/
def cbRowD (lo : Nat) : Instr :=
  match lo with
  | 0x0 => .set2B
  | 0x1 => .set2C
  | 0x2 => .set2D
  | 0x3 => .set2E
  | 0x4 => .set2H
  | 0x5 => .set2L
  | 0x6 => .set2AtHl
  | 0x7 => .set2A
  | 0x8 => .set3B
  | 0x9 => .set3C
  | 0xA => .set3D
  | 0xB => .set3E
  | 0xC => .set3H
  | 0xD => .set3L
  | 0xE => .set3AtHl
  | _ => .set3A

/-- Row Ex of the CB map (R166), by column. -/
def cbRowE (lo : Nat) : Instr :=
  match lo with
  | 0x0 => .set4B
  | 0x1 => .set4C
  | 0x2 => .set4D
  | 0x3 => .set4E
  | 0x4 => .set4H
  | 0x5 => .set4L
  | 0x6 => .set4AtHl
  | 0x7 => .set4A
  | 0x8 => .set5B
  | 0x9 => .set5C
  | 0xA => .set5D
  | 0xB => .set5E
  | 0xC => .set5H
  | 0xD => .set5L
  | 0xE => .set5AtHl
  | _ => .set5A

/-- Row Fx of the CB map (R166), by column. -/
def cbRowF (lo : Nat) : Instr :=
  match lo with
  | 0x0 => .set6B
  | 0x1 => .set6C
  | 0x2 => .set6D
  | 0x3 => .set6E
  | 0x4 => .set6H
  | 0x5 => .set6L
  | 0x6 => .set6AtHl
  | 0x7 => .set6A
  | 0x8 => .set7B
  | 0x9 => .set7C
  | 0xA => .set7D
  | 0xB => .set7E
  | 0xC => .set7H
  | 0xD => .set7L
  | 0xE => .set7AtHl
  | _ => .set7A

/-- The CB table: the row R166 gives for the second byte; every second byte is defined (R161). -/
def decodeCb (op2 : Byte) : Instr :=
  let lo := op2.toNat % 16
  match op2.toNat / 16 with
  | 0x0 => cbRow0 lo
  | 0x1 => cbRow1 lo
  | 0x2 => cbRow2 lo
  | 0x3 => cbRow3 lo
  | 0x4 => cbRow4 lo
  | 0x5 => cbRow5 lo
  | 0x6 => cbRow6 lo
  | 0x7 => cbRow7 lo
  | 0x8 => cbRow8 lo
  | 0x9 => cbRow9 lo
  | 0xA => cbRowA lo
  | 0xB => cbRowB lo
  | 0xC => cbRowC lo
  | 0xD => cbRowD lo
  | 0xE => cbRowE lo
  | _ => cbRowF lo

/-- Row 0x of the primary map (R165), by column. -/
def primaryRow0 (lo : Nat) (b1 b2 : Byte) : Instr :=
  match lo with
  | 0x0 => .nop
  | 0x1 => .ldBcD16 (wordOf b2 b1)
  | 0x2 => .ldAtBcA
  | 0x3 => .incBc
  | 0x4 => .incB
  | 0x5 => .decB
  | 0x6 => .ldBD8 b1
  | 0x7 => .rlca
  | 0x8 => .ldAtA16Sp (wordOf b2 b1)
  | 0x9 => .addHlBc
  | 0xA => .ldAAtBc
  | 0xB => .decBc
  | 0xC => .incC
  | 0xD => .decC
  | 0xE => .ldCD8 b1
  | _ => .rrca

/-- Row 1x of the primary map (R165), by column. -/
def primaryRow1 (lo : Nat) (b1 b2 : Byte) : Instr :=
  match lo with
  | 0x0 => .stop b1
  | 0x1 => .ldDeD16 (wordOf b2 b1)
  | 0x2 => .ldAtDeA
  | 0x3 => .incDe
  | 0x4 => .incD
  | 0x5 => .decD
  | 0x6 => .ldDD8 b1
  | 0x7 => .rla
  | 0x8 => .jrE8 b1
  | 0x9 => .addHlDe
  | 0xA => .ldAAtDe
  | 0xB => .decDe
  | 0xC => .incE
  | 0xD => .decE
  | 0xE => .ldED8 b1
  | _ => .rra

/-- Row 2x of the primary map (R165), by column. -/
def primaryRow2 (lo : Nat) (b1 b2 : Byte) : Instr :=
  match lo with
  | 0x0 => .jrNzE8 b1
  | 0x1 => .ldHlD16 (wordOf b2 b1)
  | 0x2 => .ldAtHlIncA
  | 0x3 => .incHl
  | 0x4 => .incH
  | 0x5 => .decH
  | 0x6 => .ldHD8 b1
  | 0x7 => .daa
  | 0x8 => .jrZE8 b1
  | 0x9 => .addHlHl
  | 0xA => .ldAAtHlInc
  | 0xB => .decHl
  | 0xC => .incL
  | 0xD => .decL
  | 0xE => .ldLD8 b1
  | _ => .cpl

/-- Row 3x of the primary map (R165), by column. -/
def primaryRow3 (lo : Nat) (b1 b2 : Byte) : Instr :=
  match lo with
  | 0x0 => .jrNcE8 b1
  | 0x1 => .ldSpD16 (wordOf b2 b1)
  | 0x2 => .ldAtHlDecA
  | 0x3 => .incSp
  | 0x4 => .incAtHl
  | 0x5 => .decAtHl
  | 0x6 => .ldAtHlD8 b1
  | 0x7 => .scf
  | 0x8 => .jrCE8 b1
  | 0x9 => .addHlSp
  | 0xA => .ldAAtHlDec
  | 0xB => .decSp
  | 0xC => .incA
  | 0xD => .decA
  | 0xE => .ldAD8 b1
  | _ => .ccf

/-- Row 4x of the primary map (R165), by column. -/
def primaryRow4 (lo : Nat) : Instr :=
  match lo with
  | 0x0 => .ldBB
  | 0x1 => .ldBC
  | 0x2 => .ldBD
  | 0x3 => .ldBE
  | 0x4 => .ldBH
  | 0x5 => .ldBL
  | 0x6 => .ldBAtHl
  | 0x7 => .ldBA
  | 0x8 => .ldCB
  | 0x9 => .ldCC
  | 0xA => .ldCD
  | 0xB => .ldCE
  | 0xC => .ldCH
  | 0xD => .ldCL
  | 0xE => .ldCAtHl
  | _ => .ldCA

/-- Row 5x of the primary map (R165), by column. -/
def primaryRow5 (lo : Nat) : Instr :=
  match lo with
  | 0x0 => .ldDB
  | 0x1 => .ldDC
  | 0x2 => .ldDD
  | 0x3 => .ldDE
  | 0x4 => .ldDH
  | 0x5 => .ldDL
  | 0x6 => .ldDAtHl
  | 0x7 => .ldDA
  | 0x8 => .ldEB
  | 0x9 => .ldEC
  | 0xA => .ldED
  | 0xB => .ldEE
  | 0xC => .ldEH
  | 0xD => .ldEL
  | 0xE => .ldEAtHl
  | _ => .ldEA

/-- Row 6x of the primary map (R165), by column. -/
def primaryRow6 (lo : Nat) : Instr :=
  match lo with
  | 0x0 => .ldHB
  | 0x1 => .ldHC
  | 0x2 => .ldHD
  | 0x3 => .ldHE
  | 0x4 => .ldHH
  | 0x5 => .ldHL
  | 0x6 => .ldHAtHl
  | 0x7 => .ldHA
  | 0x8 => .ldLB
  | 0x9 => .ldLC
  | 0xA => .ldLD
  | 0xB => .ldLE
  | 0xC => .ldLH
  | 0xD => .ldLL
  | 0xE => .ldLAtHl
  | _ => .ldLA

/-- Row 7x of the primary map (R165), by column. -/
def primaryRow7 (lo : Nat) : Instr :=
  match lo with
  | 0x0 => .ldAtHlB
  | 0x1 => .ldAtHlC
  | 0x2 => .ldAtHlD
  | 0x3 => .ldAtHlE
  | 0x4 => .ldAtHlH
  | 0x5 => .ldAtHlL
  | 0x6 => .halt
  | 0x7 => .ldAtHlA
  | 0x8 => .ldAB
  | 0x9 => .ldAC
  | 0xA => .ldAD
  | 0xB => .ldAE
  | 0xC => .ldAH
  | 0xD => .ldAL
  | 0xE => .ldAAtHl
  | _ => .ldAA

/-- Row 8x of the primary map (R165), by column. -/
def primaryRow8 (lo : Nat) : Instr :=
  match lo with
  | 0x0 => .addAB
  | 0x1 => .addAC
  | 0x2 => .addAD
  | 0x3 => .addAE
  | 0x4 => .addAH
  | 0x5 => .addAL
  | 0x6 => .addAAtHl
  | 0x7 => .addAA
  | 0x8 => .adcAB
  | 0x9 => .adcAC
  | 0xA => .adcAD
  | 0xB => .adcAE
  | 0xC => .adcAH
  | 0xD => .adcAL
  | 0xE => .adcAAtHl
  | _ => .adcAA

/-- Row 9x of the primary map (R165), by column. -/
def primaryRow9 (lo : Nat) : Instr :=
  match lo with
  | 0x0 => .subB
  | 0x1 => .subC
  | 0x2 => .subD
  | 0x3 => .subE
  | 0x4 => .subH
  | 0x5 => .subL
  | 0x6 => .subAtHl
  | 0x7 => .subA
  | 0x8 => .sbcAB
  | 0x9 => .sbcAC
  | 0xA => .sbcAD
  | 0xB => .sbcAE
  | 0xC => .sbcAH
  | 0xD => .sbcAL
  | 0xE => .sbcAAtHl
  | _ => .sbcAA

/-- Row Ax of the primary map (R165), by column. -/
def primaryRowA (lo : Nat) : Instr :=
  match lo with
  | 0x0 => .andB
  | 0x1 => .andC
  | 0x2 => .andD
  | 0x3 => .andE
  | 0x4 => .andH
  | 0x5 => .andL
  | 0x6 => .andAtHl
  | 0x7 => .andA
  | 0x8 => .xorB
  | 0x9 => .xorC
  | 0xA => .xorD
  | 0xB => .xorE
  | 0xC => .xorH
  | 0xD => .xorL
  | 0xE => .xorAtHl
  | _ => .xorA

/-- Row Bx of the primary map (R165), by column. -/
def primaryRowB (lo : Nat) : Instr :=
  match lo with
  | 0x0 => .orB
  | 0x1 => .orC
  | 0x2 => .orD
  | 0x3 => .orE
  | 0x4 => .orH
  | 0x5 => .orL
  | 0x6 => .orAtHl
  | 0x7 => .orA
  | 0x8 => .cpB
  | 0x9 => .cpC
  | 0xA => .cpD
  | 0xB => .cpE
  | 0xC => .cpH
  | 0xD => .cpL
  | 0xE => .cpAtHl
  | _ => .cpA

/-- Row Cx of the primary map (R165), by column. -/
def primaryRowC (lo : Nat) (b1 b2 : Byte) : Instr :=
  match lo with
  | 0x0 => .retNz
  | 0x1 => .popBc
  | 0x2 => .jpNzA16 (wordOf b2 b1)
  | 0x3 => .jpA16 (wordOf b2 b1)
  | 0x4 => .callNzA16 (wordOf b2 b1)
  | 0x5 => .pushBc
  | 0x6 => .addAD8 b1
  | 0x7 => .rst00
  | 0x8 => .retZ
  | 0x9 => .ret
  | 0xA => .jpZA16 (wordOf b2 b1)
  | 0xB => decodeCb b1
  | 0xC => .callZA16 (wordOf b2 b1)
  | 0xD => .callA16 (wordOf b2 b1)
  | 0xE => .adcAD8 b1
  | _ => .rst08

/-- Row Dx of the primary map (R165), by column. -/
def primaryRowD (lo : Nat) (b1 b2 : Byte) : Instr :=
  match lo with
  | 0x0 => .retNc
  | 0x1 => .popDe
  | 0x2 => .jpNcA16 (wordOf b2 b1)
  | 0x3 => .illegalD3
  | 0x4 => .callNcA16 (wordOf b2 b1)
  | 0x5 => .pushDe
  | 0x6 => .subD8 b1
  | 0x7 => .rst10
  | 0x8 => .retC
  | 0x9 => .reti
  | 0xA => .jpCA16 (wordOf b2 b1)
  | 0xB => .illegalDB
  | 0xC => .callCA16 (wordOf b2 b1)
  | 0xD => .illegalDD
  | 0xE => .sbcAD8 b1
  | _ => .rst18

/-- Row Ex of the primary map (R165), by column. -/
def primaryRowE (lo : Nat) (b1 b2 : Byte) : Instr :=
  match lo with
  | 0x0 => .ldhAtA8A b1
  | 0x1 => .popHl
  | 0x2 => .ldAtCA
  | 0x3 => .illegalE3
  | 0x4 => .illegalE4
  | 0x5 => .pushHl
  | 0x6 => .andD8 b1
  | 0x7 => .rst20
  | 0x8 => .addSpE8 b1
  | 0x9 => .jpHl
  | 0xA => .ldAtA16A (wordOf b2 b1)
  | 0xB => .illegalEB
  | 0xC => .illegalEC
  | 0xD => .illegalED
  | 0xE => .xorD8 b1
  | _ => .rst28

/-- Row Fx of the primary map (R165), by column. -/
def primaryRowF (lo : Nat) (b1 b2 : Byte) : Instr :=
  match lo with
  | 0x0 => .ldhAAtA8 b1
  | 0x1 => .popAf
  | 0x2 => .ldAAtC
  | 0x3 => .di
  | 0x4 => .illegalF4
  | 0x5 => .pushAf
  | 0x6 => .orD8 b1
  | 0x7 => .rst30
  | 0x8 => .ldHlSpE8 b1
  | 0x9 => .ldSpHl
  | 0xA => .ldAAtA16 (wordOf b2 b1)
  | 0xB => .ei
  | 0xC => .illegalFC
  | 0xD => .illegalFD
  | 0xE => .cpD8 b1
  | _ => .rst38

/-- The instruction whose opcode byte is `op` and whose next two bytes are `b1` and `b2` (R151, R162): total, every opcode
byte selects a row (R163, R164). A form of fewer bytes ignores the bytes it does not have. -/
def decodeBytes (op b1 b2 : Byte) : Instr :=
  let lo := op.toNat % 16
  match op.toNat / 16 with
  | 0x0 => primaryRow0 lo b1 b2
  | 0x1 => primaryRow1 lo b1 b2
  | 0x2 => primaryRow2 lo b1 b2
  | 0x3 => primaryRow3 lo b1 b2
  | 0x4 => primaryRow4 lo
  | 0x5 => primaryRow5 lo
  | 0x6 => primaryRow6 lo
  | 0x7 => primaryRow7 lo
  | 0x8 => primaryRow8 lo
  | 0x9 => primaryRow9 lo
  | 0xA => primaryRowA lo
  | 0xB => primaryRowB lo
  | 0xC => primaryRowC lo b1 b2
  | 0xD => primaryRowD lo b1 b2
  | 0xE => primaryRowE lo b1 b2
  | _ => primaryRowF lo b1 b2

/-- The opcode bytes of three-byte instructions (R165). -/
def threeByteOpcodes : List Byte :=
  [0x01, 0x08, 0x11, 0x21, 0x31, 0xC2, 0xC3, 0xC4, 0xCA, 0xCC, 0xCD, 0xD2, 0xD4, 0xDA, 0xDC, 0xEA, 0xFA]

/-- The opcode bytes of two-byte instructions, STOP (R150) and the CB prefix among them (R165). -/
def twoByteOpcodes : List Byte :=
  [0x06, 0x0E, 0x10, 0x16, 0x18, 0x1E, 0x20, 0x26, 0x28, 0x2E, 0x30, 0x36, 0x38, 0x3E, 0xC6, 0xCB, 0xCE, 0xD6, 0xDE, 0xE0, 0xE6, 0xE8, 0xEE, 0xF0, 0xF6, 0xF8, 0xFE]

/-- How many bytes an instruction has: the first byte alone says (R150). -/
def opcodeLength (op : Byte) : Nat :=
  if threeByteOpcodes.contains op then 3 else if twoByteOpcodes.contains op then 2 else 1

/-- Why a byte string holds no instruction: it ends too early. No opcode byte is rejected (R151). -/
inductive DecodeError where
  /-- There is no byte at all. -/
  | noBytes
  /-- The opcode byte says `need` bytes and only `got` are there. -/
  | truncated (need got : Nat)
deriving DecidableEq, Repr

/-- Decode the first instruction of a byte string, with the bytes after it. -/
def decode : List Byte → Except DecodeError (Instr × List Byte)
  | [] => .error .noBytes
  | op :: rest =>
    let need := opcodeLength op
    if rest.length + 1 < need then .error (.truncated need (rest.length + 1))
    else .ok (decodeBytes op (rest.getD 0 0) (rest.getD 1 0), rest.drop (need - 1))

/-- The bytes of an instruction, in fetch order (R150, R162, R169): the opcode, then the operand bytes, a 16-bit operand
low byte first (R84). -/
def encode : Instr → List Byte
  | .nop => [0x00]
  | .ldBcD16 nn => [0x01, loByte nn, hiByte nn]
  | .ldAtBcA => [0x02]
  | .incBc => [0x03]
  | .incB => [0x04]
  | .decB => [0x05]
  | .ldBD8 n => [0x06, n]
  | .rlca => [0x07]
  | .ldAtA16Sp nn => [0x08, loByte nn, hiByte nn]
  | .addHlBc => [0x09]
  | .ldAAtBc => [0x0A]
  | .decBc => [0x0B]
  | .incC => [0x0C]
  | .decC => [0x0D]
  | .ldCD8 n => [0x0E, n]
  | .rrca => [0x0F]
  | .stop n => [0x10, n]
  | .ldDeD16 nn => [0x11, loByte nn, hiByte nn]
  | .ldAtDeA => [0x12]
  | .incDe => [0x13]
  | .incD => [0x14]
  | .decD => [0x15]
  | .ldDD8 n => [0x16, n]
  | .rla => [0x17]
  | .jrE8 e => [0x18, e]
  | .addHlDe => [0x19]
  | .ldAAtDe => [0x1A]
  | .decDe => [0x1B]
  | .incE => [0x1C]
  | .decE => [0x1D]
  | .ldED8 n => [0x1E, n]
  | .rra => [0x1F]
  | .jrNzE8 e => [0x20, e]
  | .ldHlD16 nn => [0x21, loByte nn, hiByte nn]
  | .ldAtHlIncA => [0x22]
  | .incHl => [0x23]
  | .incH => [0x24]
  | .decH => [0x25]
  | .ldHD8 n => [0x26, n]
  | .daa => [0x27]
  | .jrZE8 e => [0x28, e]
  | .addHlHl => [0x29]
  | .ldAAtHlInc => [0x2A]
  | .decHl => [0x2B]
  | .incL => [0x2C]
  | .decL => [0x2D]
  | .ldLD8 n => [0x2E, n]
  | .cpl => [0x2F]
  | .jrNcE8 e => [0x30, e]
  | .ldSpD16 nn => [0x31, loByte nn, hiByte nn]
  | .ldAtHlDecA => [0x32]
  | .incSp => [0x33]
  | .incAtHl => [0x34]
  | .decAtHl => [0x35]
  | .ldAtHlD8 n => [0x36, n]
  | .scf => [0x37]
  | .jrCE8 e => [0x38, e]
  | .addHlSp => [0x39]
  | .ldAAtHlDec => [0x3A]
  | .decSp => [0x3B]
  | .incA => [0x3C]
  | .decA => [0x3D]
  | .ldAD8 n => [0x3E, n]
  | .ccf => [0x3F]
  | .ldBB => [0x40]
  | .ldBC => [0x41]
  | .ldBD => [0x42]
  | .ldBE => [0x43]
  | .ldBH => [0x44]
  | .ldBL => [0x45]
  | .ldBAtHl => [0x46]
  | .ldBA => [0x47]
  | .ldCB => [0x48]
  | .ldCC => [0x49]
  | .ldCD => [0x4A]
  | .ldCE => [0x4B]
  | .ldCH => [0x4C]
  | .ldCL => [0x4D]
  | .ldCAtHl => [0x4E]
  | .ldCA => [0x4F]
  | .ldDB => [0x50]
  | .ldDC => [0x51]
  | .ldDD => [0x52]
  | .ldDE => [0x53]
  | .ldDH => [0x54]
  | .ldDL => [0x55]
  | .ldDAtHl => [0x56]
  | .ldDA => [0x57]
  | .ldEB => [0x58]
  | .ldEC => [0x59]
  | .ldED => [0x5A]
  | .ldEE => [0x5B]
  | .ldEH => [0x5C]
  | .ldEL => [0x5D]
  | .ldEAtHl => [0x5E]
  | .ldEA => [0x5F]
  | .ldHB => [0x60]
  | .ldHC => [0x61]
  | .ldHD => [0x62]
  | .ldHE => [0x63]
  | .ldHH => [0x64]
  | .ldHL => [0x65]
  | .ldHAtHl => [0x66]
  | .ldHA => [0x67]
  | .ldLB => [0x68]
  | .ldLC => [0x69]
  | .ldLD => [0x6A]
  | .ldLE => [0x6B]
  | .ldLH => [0x6C]
  | .ldLL => [0x6D]
  | .ldLAtHl => [0x6E]
  | .ldLA => [0x6F]
  | .ldAtHlB => [0x70]
  | .ldAtHlC => [0x71]
  | .ldAtHlD => [0x72]
  | .ldAtHlE => [0x73]
  | .ldAtHlH => [0x74]
  | .ldAtHlL => [0x75]
  | .halt => [0x76]
  | .ldAtHlA => [0x77]
  | .ldAB => [0x78]
  | .ldAC => [0x79]
  | .ldAD => [0x7A]
  | .ldAE => [0x7B]
  | .ldAH => [0x7C]
  | .ldAL => [0x7D]
  | .ldAAtHl => [0x7E]
  | .ldAA => [0x7F]
  | .addAB => [0x80]
  | .addAC => [0x81]
  | .addAD => [0x82]
  | .addAE => [0x83]
  | .addAH => [0x84]
  | .addAL => [0x85]
  | .addAAtHl => [0x86]
  | .addAA => [0x87]
  | .adcAB => [0x88]
  | .adcAC => [0x89]
  | .adcAD => [0x8A]
  | .adcAE => [0x8B]
  | .adcAH => [0x8C]
  | .adcAL => [0x8D]
  | .adcAAtHl => [0x8E]
  | .adcAA => [0x8F]
  | .subB => [0x90]
  | .subC => [0x91]
  | .subD => [0x92]
  | .subE => [0x93]
  | .subH => [0x94]
  | .subL => [0x95]
  | .subAtHl => [0x96]
  | .subA => [0x97]
  | .sbcAB => [0x98]
  | .sbcAC => [0x99]
  | .sbcAD => [0x9A]
  | .sbcAE => [0x9B]
  | .sbcAH => [0x9C]
  | .sbcAL => [0x9D]
  | .sbcAAtHl => [0x9E]
  | .sbcAA => [0x9F]
  | .andB => [0xA0]
  | .andC => [0xA1]
  | .andD => [0xA2]
  | .andE => [0xA3]
  | .andH => [0xA4]
  | .andL => [0xA5]
  | .andAtHl => [0xA6]
  | .andA => [0xA7]
  | .xorB => [0xA8]
  | .xorC => [0xA9]
  | .xorD => [0xAA]
  | .xorE => [0xAB]
  | .xorH => [0xAC]
  | .xorL => [0xAD]
  | .xorAtHl => [0xAE]
  | .xorA => [0xAF]
  | .orB => [0xB0]
  | .orC => [0xB1]
  | .orD => [0xB2]
  | .orE => [0xB3]
  | .orH => [0xB4]
  | .orL => [0xB5]
  | .orAtHl => [0xB6]
  | .orA => [0xB7]
  | .cpB => [0xB8]
  | .cpC => [0xB9]
  | .cpD => [0xBA]
  | .cpE => [0xBB]
  | .cpH => [0xBC]
  | .cpL => [0xBD]
  | .cpAtHl => [0xBE]
  | .cpA => [0xBF]
  | .retNz => [0xC0]
  | .popBc => [0xC1]
  | .jpNzA16 nn => [0xC2, loByte nn, hiByte nn]
  | .jpA16 nn => [0xC3, loByte nn, hiByte nn]
  | .callNzA16 nn => [0xC4, loByte nn, hiByte nn]
  | .pushBc => [0xC5]
  | .addAD8 n => [0xC6, n]
  | .rst00 => [0xC7]
  | .retZ => [0xC8]
  | .ret => [0xC9]
  | .jpZA16 nn => [0xCA, loByte nn, hiByte nn]
  | .prefixCb op2 => [0xCB, op2]
  | .callZA16 nn => [0xCC, loByte nn, hiByte nn]
  | .callA16 nn => [0xCD, loByte nn, hiByte nn]
  | .adcAD8 n => [0xCE, n]
  | .rst08 => [0xCF]
  | .retNc => [0xD0]
  | .popDe => [0xD1]
  | .jpNcA16 nn => [0xD2, loByte nn, hiByte nn]
  | .illegalD3 => [0xD3]
  | .callNcA16 nn => [0xD4, loByte nn, hiByte nn]
  | .pushDe => [0xD5]
  | .subD8 n => [0xD6, n]
  | .rst10 => [0xD7]
  | .retC => [0xD8]
  | .reti => [0xD9]
  | .jpCA16 nn => [0xDA, loByte nn, hiByte nn]
  | .illegalDB => [0xDB]
  | .callCA16 nn => [0xDC, loByte nn, hiByte nn]
  | .illegalDD => [0xDD]
  | .sbcAD8 n => [0xDE, n]
  | .rst18 => [0xDF]
  | .ldhAtA8A n => [0xE0, n]
  | .popHl => [0xE1]
  | .ldAtCA => [0xE2]
  | .illegalE3 => [0xE3]
  | .illegalE4 => [0xE4]
  | .pushHl => [0xE5]
  | .andD8 n => [0xE6, n]
  | .rst20 => [0xE7]
  | .addSpE8 e => [0xE8, e]
  | .jpHl => [0xE9]
  | .ldAtA16A nn => [0xEA, loByte nn, hiByte nn]
  | .illegalEB => [0xEB]
  | .illegalEC => [0xEC]
  | .illegalED => [0xED]
  | .xorD8 n => [0xEE, n]
  | .rst28 => [0xEF]
  | .ldhAAtA8 n => [0xF0, n]
  | .popAf => [0xF1]
  | .ldAAtC => [0xF2]
  | .di => [0xF3]
  | .illegalF4 => [0xF4]
  | .pushAf => [0xF5]
  | .orD8 n => [0xF6, n]
  | .rst30 => [0xF7]
  | .ldHlSpE8 e => [0xF8, e]
  | .ldSpHl => [0xF9]
  | .ldAAtA16 nn => [0xFA, loByte nn, hiByte nn]
  | .ei => [0xFB]
  | .illegalFC => [0xFC]
  | .illegalFD => [0xFD]
  | .cpD8 n => [0xFE, n]
  | .rst38 => [0xFF]
  | .rlcB => [0xCB, 0x00]
  | .rlcC => [0xCB, 0x01]
  | .rlcD => [0xCB, 0x02]
  | .rlcE => [0xCB, 0x03]
  | .rlcH => [0xCB, 0x04]
  | .rlcL => [0xCB, 0x05]
  | .rlcAtHl => [0xCB, 0x06]
  | .rlcA => [0xCB, 0x07]
  | .rrcB => [0xCB, 0x08]
  | .rrcC => [0xCB, 0x09]
  | .rrcD => [0xCB, 0x0A]
  | .rrcE => [0xCB, 0x0B]
  | .rrcH => [0xCB, 0x0C]
  | .rrcL => [0xCB, 0x0D]
  | .rrcAtHl => [0xCB, 0x0E]
  | .rrcA => [0xCB, 0x0F]
  | .rlB => [0xCB, 0x10]
  | .rlC => [0xCB, 0x11]
  | .rlD => [0xCB, 0x12]
  | .rlE => [0xCB, 0x13]
  | .rlH => [0xCB, 0x14]
  | .rlL => [0xCB, 0x15]
  | .rlAtHl => [0xCB, 0x16]
  | .rlA => [0xCB, 0x17]
  | .rrB => [0xCB, 0x18]
  | .rrC => [0xCB, 0x19]
  | .rrD => [0xCB, 0x1A]
  | .rrE => [0xCB, 0x1B]
  | .rrH => [0xCB, 0x1C]
  | .rrL => [0xCB, 0x1D]
  | .rrAtHl => [0xCB, 0x1E]
  | .rrA => [0xCB, 0x1F]
  | .slaB => [0xCB, 0x20]
  | .slaC => [0xCB, 0x21]
  | .slaD => [0xCB, 0x22]
  | .slaE => [0xCB, 0x23]
  | .slaH => [0xCB, 0x24]
  | .slaL => [0xCB, 0x25]
  | .slaAtHl => [0xCB, 0x26]
  | .slaA => [0xCB, 0x27]
  | .sraB => [0xCB, 0x28]
  | .sraC => [0xCB, 0x29]
  | .sraD => [0xCB, 0x2A]
  | .sraE => [0xCB, 0x2B]
  | .sraH => [0xCB, 0x2C]
  | .sraL => [0xCB, 0x2D]
  | .sraAtHl => [0xCB, 0x2E]
  | .sraA => [0xCB, 0x2F]
  | .swapB => [0xCB, 0x30]
  | .swapC => [0xCB, 0x31]
  | .swapD => [0xCB, 0x32]
  | .swapE => [0xCB, 0x33]
  | .swapH => [0xCB, 0x34]
  | .swapL => [0xCB, 0x35]
  | .swapAtHl => [0xCB, 0x36]
  | .swapA => [0xCB, 0x37]
  | .srlB => [0xCB, 0x38]
  | .srlC => [0xCB, 0x39]
  | .srlD => [0xCB, 0x3A]
  | .srlE => [0xCB, 0x3B]
  | .srlH => [0xCB, 0x3C]
  | .srlL => [0xCB, 0x3D]
  | .srlAtHl => [0xCB, 0x3E]
  | .srlA => [0xCB, 0x3F]
  | .bit0B => [0xCB, 0x40]
  | .bit0C => [0xCB, 0x41]
  | .bit0D => [0xCB, 0x42]
  | .bit0E => [0xCB, 0x43]
  | .bit0H => [0xCB, 0x44]
  | .bit0L => [0xCB, 0x45]
  | .bit0AtHl => [0xCB, 0x46]
  | .bit0A => [0xCB, 0x47]
  | .bit1B => [0xCB, 0x48]
  | .bit1C => [0xCB, 0x49]
  | .bit1D => [0xCB, 0x4A]
  | .bit1E => [0xCB, 0x4B]
  | .bit1H => [0xCB, 0x4C]
  | .bit1L => [0xCB, 0x4D]
  | .bit1AtHl => [0xCB, 0x4E]
  | .bit1A => [0xCB, 0x4F]
  | .bit2B => [0xCB, 0x50]
  | .bit2C => [0xCB, 0x51]
  | .bit2D => [0xCB, 0x52]
  | .bit2E => [0xCB, 0x53]
  | .bit2H => [0xCB, 0x54]
  | .bit2L => [0xCB, 0x55]
  | .bit2AtHl => [0xCB, 0x56]
  | .bit2A => [0xCB, 0x57]
  | .bit3B => [0xCB, 0x58]
  | .bit3C => [0xCB, 0x59]
  | .bit3D => [0xCB, 0x5A]
  | .bit3E => [0xCB, 0x5B]
  | .bit3H => [0xCB, 0x5C]
  | .bit3L => [0xCB, 0x5D]
  | .bit3AtHl => [0xCB, 0x5E]
  | .bit3A => [0xCB, 0x5F]
  | .bit4B => [0xCB, 0x60]
  | .bit4C => [0xCB, 0x61]
  | .bit4D => [0xCB, 0x62]
  | .bit4E => [0xCB, 0x63]
  | .bit4H => [0xCB, 0x64]
  | .bit4L => [0xCB, 0x65]
  | .bit4AtHl => [0xCB, 0x66]
  | .bit4A => [0xCB, 0x67]
  | .bit5B => [0xCB, 0x68]
  | .bit5C => [0xCB, 0x69]
  | .bit5D => [0xCB, 0x6A]
  | .bit5E => [0xCB, 0x6B]
  | .bit5H => [0xCB, 0x6C]
  | .bit5L => [0xCB, 0x6D]
  | .bit5AtHl => [0xCB, 0x6E]
  | .bit5A => [0xCB, 0x6F]
  | .bit6B => [0xCB, 0x70]
  | .bit6C => [0xCB, 0x71]
  | .bit6D => [0xCB, 0x72]
  | .bit6E => [0xCB, 0x73]
  | .bit6H => [0xCB, 0x74]
  | .bit6L => [0xCB, 0x75]
  | .bit6AtHl => [0xCB, 0x76]
  | .bit6A => [0xCB, 0x77]
  | .bit7B => [0xCB, 0x78]
  | .bit7C => [0xCB, 0x79]
  | .bit7D => [0xCB, 0x7A]
  | .bit7E => [0xCB, 0x7B]
  | .bit7H => [0xCB, 0x7C]
  | .bit7L => [0xCB, 0x7D]
  | .bit7AtHl => [0xCB, 0x7E]
  | .bit7A => [0xCB, 0x7F]
  | .res0B => [0xCB, 0x80]
  | .res0C => [0xCB, 0x81]
  | .res0D => [0xCB, 0x82]
  | .res0E => [0xCB, 0x83]
  | .res0H => [0xCB, 0x84]
  | .res0L => [0xCB, 0x85]
  | .res0AtHl => [0xCB, 0x86]
  | .res0A => [0xCB, 0x87]
  | .res1B => [0xCB, 0x88]
  | .res1C => [0xCB, 0x89]
  | .res1D => [0xCB, 0x8A]
  | .res1E => [0xCB, 0x8B]
  | .res1H => [0xCB, 0x8C]
  | .res1L => [0xCB, 0x8D]
  | .res1AtHl => [0xCB, 0x8E]
  | .res1A => [0xCB, 0x8F]
  | .res2B => [0xCB, 0x90]
  | .res2C => [0xCB, 0x91]
  | .res2D => [0xCB, 0x92]
  | .res2E => [0xCB, 0x93]
  | .res2H => [0xCB, 0x94]
  | .res2L => [0xCB, 0x95]
  | .res2AtHl => [0xCB, 0x96]
  | .res2A => [0xCB, 0x97]
  | .res3B => [0xCB, 0x98]
  | .res3C => [0xCB, 0x99]
  | .res3D => [0xCB, 0x9A]
  | .res3E => [0xCB, 0x9B]
  | .res3H => [0xCB, 0x9C]
  | .res3L => [0xCB, 0x9D]
  | .res3AtHl => [0xCB, 0x9E]
  | .res3A => [0xCB, 0x9F]
  | .res4B => [0xCB, 0xA0]
  | .res4C => [0xCB, 0xA1]
  | .res4D => [0xCB, 0xA2]
  | .res4E => [0xCB, 0xA3]
  | .res4H => [0xCB, 0xA4]
  | .res4L => [0xCB, 0xA5]
  | .res4AtHl => [0xCB, 0xA6]
  | .res4A => [0xCB, 0xA7]
  | .res5B => [0xCB, 0xA8]
  | .res5C => [0xCB, 0xA9]
  | .res5D => [0xCB, 0xAA]
  | .res5E => [0xCB, 0xAB]
  | .res5H => [0xCB, 0xAC]
  | .res5L => [0xCB, 0xAD]
  | .res5AtHl => [0xCB, 0xAE]
  | .res5A => [0xCB, 0xAF]
  | .res6B => [0xCB, 0xB0]
  | .res6C => [0xCB, 0xB1]
  | .res6D => [0xCB, 0xB2]
  | .res6E => [0xCB, 0xB3]
  | .res6H => [0xCB, 0xB4]
  | .res6L => [0xCB, 0xB5]
  | .res6AtHl => [0xCB, 0xB6]
  | .res6A => [0xCB, 0xB7]
  | .res7B => [0xCB, 0xB8]
  | .res7C => [0xCB, 0xB9]
  | .res7D => [0xCB, 0xBA]
  | .res7E => [0xCB, 0xBB]
  | .res7H => [0xCB, 0xBC]
  | .res7L => [0xCB, 0xBD]
  | .res7AtHl => [0xCB, 0xBE]
  | .res7A => [0xCB, 0xBF]
  | .set0B => [0xCB, 0xC0]
  | .set0C => [0xCB, 0xC1]
  | .set0D => [0xCB, 0xC2]
  | .set0E => [0xCB, 0xC3]
  | .set0H => [0xCB, 0xC4]
  | .set0L => [0xCB, 0xC5]
  | .set0AtHl => [0xCB, 0xC6]
  | .set0A => [0xCB, 0xC7]
  | .set1B => [0xCB, 0xC8]
  | .set1C => [0xCB, 0xC9]
  | .set1D => [0xCB, 0xCA]
  | .set1E => [0xCB, 0xCB]
  | .set1H => [0xCB, 0xCC]
  | .set1L => [0xCB, 0xCD]
  | .set1AtHl => [0xCB, 0xCE]
  | .set1A => [0xCB, 0xCF]
  | .set2B => [0xCB, 0xD0]
  | .set2C => [0xCB, 0xD1]
  | .set2D => [0xCB, 0xD2]
  | .set2E => [0xCB, 0xD3]
  | .set2H => [0xCB, 0xD4]
  | .set2L => [0xCB, 0xD5]
  | .set2AtHl => [0xCB, 0xD6]
  | .set2A => [0xCB, 0xD7]
  | .set3B => [0xCB, 0xD8]
  | .set3C => [0xCB, 0xD9]
  | .set3D => [0xCB, 0xDA]
  | .set3E => [0xCB, 0xDB]
  | .set3H => [0xCB, 0xDC]
  | .set3L => [0xCB, 0xDD]
  | .set3AtHl => [0xCB, 0xDE]
  | .set3A => [0xCB, 0xDF]
  | .set4B => [0xCB, 0xE0]
  | .set4C => [0xCB, 0xE1]
  | .set4D => [0xCB, 0xE2]
  | .set4E => [0xCB, 0xE3]
  | .set4H => [0xCB, 0xE4]
  | .set4L => [0xCB, 0xE5]
  | .set4AtHl => [0xCB, 0xE6]
  | .set4A => [0xCB, 0xE7]
  | .set5B => [0xCB, 0xE8]
  | .set5C => [0xCB, 0xE9]
  | .set5D => [0xCB, 0xEA]
  | .set5E => [0xCB, 0xEB]
  | .set5H => [0xCB, 0xEC]
  | .set5L => [0xCB, 0xED]
  | .set5AtHl => [0xCB, 0xEE]
  | .set5A => [0xCB, 0xEF]
  | .set6B => [0xCB, 0xF0]
  | .set6C => [0xCB, 0xF1]
  | .set6D => [0xCB, 0xF2]
  | .set6E => [0xCB, 0xF3]
  | .set6H => [0xCB, 0xF4]
  | .set6L => [0xCB, 0xF5]
  | .set6AtHl => [0xCB, 0xF6]
  | .set6A => [0xCB, 0xF7]
  | .set7B => [0xCB, 0xF8]
  | .set7C => [0xCB, 0xF9]
  | .set7D => [0xCB, 0xFA]
  | .set7E => [0xCB, 0xFB]
  | .set7H => [0xCB, 0xFC]
  | .set7L => [0xCB, 0xFD]
  | .set7AtHl => [0xCB, 0xFE]
  | .set7A => [0xCB, 0xFF]

/-- The three bytes of the word `w` of `nbits` bits, in fetch order, every bit above `nbits` zero.
R169 numbers a CB row as 0xCB00 | op2, "the two bytes in fetch order read as a big-endian pair", so 0xCB in bits 15..8
of a 16-bit word is the first byte (log entry 13); otherwise the first byte is bits 7..0. -/
def tableBytes (nbits w : Nat) : Byte × Byte × Byte :=
  let v := w % 2 ^ nbits
  if nbits = 16 ∧ v / 256 = 0xCB then (0xCB, BitVec.ofNat 8 v, 0)
  else (BitVec.ofNat 8 v, BitVec.ofNat 8 (v / 256), BitVec.ofNat 8 (v / 65536))

/-- The instruction the decoder reads from a word of spec/opcode_table.json. -/
def decodeTableWord (nbits w : Nat) : Option Instr :=
  let (op, b1, b2) := tableBytes nbits w
  match decode [op, b1, b2] with
  | .ok (i, _) => some i
  | .error _ => none

end Sys2Proof
end

