-- ==== Sys2Proof/Machine/Memory.lean ====
section
/-! DEFINITION. Byte images: what an unlisted address reads as, one read, one write, and the canonical form. -/

namespace Sys2Proof

/-- What an address with no entry reads as: 0x00, the default of `RAM_INIT` (R10, log entry 3). -/
def Memory.unlisted : Byte := 0x00

/-- The byte at an address. -/
def Memory.read : Memory → Nat → Byte
  | [], _ => Memory.unlisted
  | (k, v) :: m, a => if a = k then v else Memory.read m a

/-- The image without its entry for `a`. -/
def Memory.erase (m : Memory) (a : Nat) : Memory := m.filter fun cell => cell.1 != a

/-- An entry put before the first entry of a higher address. -/
def Memory.insert : Memory → Nat → Byte → Memory
  | [], a, v => [(a, v)]
  | (k, x) :: m, a, v => if a < k then (a, v) :: (k, x) :: m else (k, x) :: Memory.insert m a v

/-- Store a byte; storing what an unlisted address reads as removes the entry. -/
def Memory.write (m : Memory) (a : Nat) (v : Byte) : Memory :=
  if v = Memory.unlisted then m.erase a else (m.erase a).insert a v

/-- Store the bytes of a list from an address upwards. -/
def Memory.writeAll (m : Memory) (a : Nat) : List Byte → Memory
  | [] => m
  | v :: vs => (m.write a v).writeAll (a + 1) vs

/-- The `n` bytes from an address upwards. -/
def Memory.readAll (m : Memory) (a : Nat) : Nat → List Byte
  | 0 => []
  | n + 1 => m.read a :: m.readAll (a + 1) n

/-- The part of an image whose addresses lie in `lo ≤ a < hi`. -/
def Memory.restrict (m : Memory) (lo hi : Nat) : Memory :=
  m.filter fun cell => lo ≤ cell.1 && cell.1 < hi

/-- An image with every byte masked. -/
def Memory.mask (mask : Byte) : Memory → Memory
  | [] => []
  | (k, v) :: m => if v &&& mask = Memory.unlisted then Memory.mask mask m else (k, v &&& mask) :: Memory.mask mask m

/-- The canonical form: addresses strictly rising, no entry equal to what an unlisted address reads as. -/
abbrev Memory.wf (m : Memory) : Prop :=
  m.Pairwise (fun x y => x.1 < y.1) ∧ ∀ cell ∈ m, cell.2 ≠ Memory.unlisted

end Sys2Proof
end

