-- ==== Sys2Proof/Config.lean ====
section
/-! DEFINITION. The parameters the spec leaves to the model as named arguments (R10), and the free values. -/

namespace Sys2Proof

/-- `HALT_BUG_TRIGGER` (R10, D5): which path sets `halt_bug`. -/
inductive HaltBugTrigger where
  /-- The source text: every wake from HALT with IME = 0 (R413). -/
  | wakeIme0
  /-- DMG silicon: HALT executed with IME = 0 and an interrupt pending (R341). -/
  | entryPending
deriving DecidableEq, Repr

/-- `NOISE_CLOCK_SCALE` (R10, R489, D35): 8 is the source formula, 1 the usual DMG table. -/
inductive NoiseScale where
  | eight
  | one
deriving DecidableEq, Repr

/-- One pixel as the four bytes R, G, B, A (R471). -/
structure Rgba where
  r : Byte
  g : Byte
  b : Byte
  a : Byte
deriving DecidableEq, Repr

/-- `SHADES` (R10, D25): the RGBA values of shades 0 to 3. -/
structure Shades where
  s0 : Rgba
  s1 : Rgba
  s2 : Rgba
  s3 : Rgba
deriving DecidableEq, Repr

/-- One stereo sample, a pair of signed 16-bit values (R491). -/
structure Sample where
  left  : BitVec 16
  right : BitVec 16
deriving DecidableEq, Repr, Inhabited

/-- `MIX` (R10, R491, D34): the default law of R491, or a law of the host's own choice.
A host law is named by a number, so that the state stays plain data; what it computes is `Config.hostMix`. -/
inductive MixLaw where
  | table
  | host (law : Nat)
deriving DecidableEq, Repr

/-- The parameters of R10 that a model takes as configuration fields. `ROM` and `BATTERY_IMAGE` are arguments of
`loadCartridge`. They are held in the state, unchanged by every step, so that a statement about every state holds for
every value of every parameter (log entry 4). -/
structure Config where
  haltBugTrigger    : HaltBugTrigger
  daaSubBorrowSetsC : Bool
  /-- `RAM_INIT` over VRAM, WRAM, OAM, HRAM and wave RAM, by CPU address. -/
  ramInit           : Memory
  /-- `RAM_INIT` over external RAM, by offset. -/
  extRamInit        : Memory
  enforceVramLock   : Bool
  shades            : Shades
  noiseScale        : NoiseScale
  mix               : MixLaw
  /-- `AUDIO_SAMPLE_RATE` in samples a second; the spec leaves it OPEN (log entry 9). -/
  sampleRate        : Nat
  /-- The ring buffer's capacity in samples; the spec leaves it OPEN (log entry 9). -/
  bufferCapacity    : Nat
deriving DecidableEq, Repr

/-- The defaults of R10: grayscale shades (D25), everything else as the table's "default" column says.
The sample rate and the capacity have no default there: 0 is a DESIGN CHOICE (log entry 9). -/
def Config.standard : Config where
  haltBugTrigger    := .wakeIme0
  daaSubBorrowSetsC := true
  ramInit           := []
  extRamInit        := []
  enforceVramLock   := true
  shades            :=
    { s0 := ⟨255, 255, 255, 255⟩, s1 := ⟨170, 170, 170, 255⟩, s2 := ⟨85, 85, 85, 255⟩, s3 := ⟨0, 0, 0, 255⟩ }
  noiseScale        := .eight
  mix               := .table
  sampleRate        := 0
  bufferCapacity    := 0

/-- FREE VALUE (log entry 6): what an envelope timer that is already 0 becomes when it is decremented. R484 gives that
counter no width, so the wrapped value is not stated. -/
opaque Config.envTimerUnderflow : Nat

/-- FREE VALUE (log entry 6): the same of the sweep timer (R485). -/
opaque Config.sweepTimerUnderflow : Nat

/-- FREE VALUE (log entry 7): the byte a sprite fetch reads at a tile-data address outside VRAM, which R470's formula
reaches only when OAM or LCDC changed between the scan and the render. -/
opaque Config.offVramByte : Int → Byte

/-- FREE VALUE (log entry 8): a host's own MIX law, from its number, the four channel amplitudes, NR50 and NR51. -/
opaque Config.hostMix : Nat → Nat → Nat → Nat → Nat → Byte → Byte → Sample

/-- The format version of this core's saved states: the spec leaves the format to the implementation (R7, R532; log
entry 19), so nothing is known of the number. -/
opaque Config.stateVersion : Nat

end Sys2Proof
end

