-- ==== Sys2Proof/Machine/State.lean ====
section
/-! DEFINITION. Everything the spec gives the machine, as plain data, and its value right after reset (R30 to R52). -/

namespace Sys2Proof.Machine

/-- Why a step stops with a fault: never. The spec gives the CPU one fault, IllegalOpcode (R430, R432), and describes its
effect: it is recorded in the state (`Cpu.fault`) and the machine stays in that state; every access to every address
completes (R133). So no step ends in a `Fault`, and the type has no constructor (log entry 15; safe: nothing is stopped). -/
inductive Fault where
deriving DecidableEq, Repr

/-- Why a step is refused. -/
inductive Refusal where
  /-- Raised by an arm of `exec` whose instruction has no meaning yet; no arm raises it now. Safe: nothing is claimed. -/
  | notModelled (mnemonic : String)
deriving DecidableEq, Repr

/-- What a step or a meaning answers. -/
abbrev Result (σ : Type) := Host.Outcome σ Fault Refusal

/-! ### The CPU -/

/-- The four flags of F, bits 7..4 (R34). Bits 3..0 of F are hard-wired to zero (R33), so they are no storage. -/
structure Flags where
  z : Bool
  n : Bool
  h : Bool
  c : Bool
deriving DecidableEq, Repr

/-- The CPU registers (R30 to R36); the pairs are views of them (R31). -/
structure Regs where
  a  : Byte
  f  : Flags
  b  : Byte
  c  : Byte
  d  : Byte
  e  : Byte
  h  : Byte
  l  : Byte
  sp : Word
  pc : Word
deriving DecidableEq, Repr

/-- The record `IllegalOpcode(opcode, addr)` of R42. -/
structure IllegalOpcode where
  opcode : Byte
  addr   : Word
deriving DecidableEq, Repr

/-- The CPU control state (R37 to R43). -/
structure Cpu where
  ime     : Bool
  eiDelay : Fin 3
  halted  : Bool
  haltBug : Bool
  stopped : Bool
  fault   : Option IllegalOpcode
  cycles  : Nat
deriving DecidableEq, Repr

/-- IE and IF, the five implemented bits of each (R44, R45). -/
structure Irq where
  ie    : BitVec 5
  iflag : BitVec 5
deriving DecidableEq, Repr

/-! ### Timer, joypad, serial -/

/-- The timer (R441). -/
structure Timer where
  div     : Byte
  divAcc  : Nat
  tima    : Byte
  tma     : Byte
  tac     : BitVec 3
  timaAcc : Nat
deriving DecidableEq, Repr

/-- The buttons (R450). -/
inductive Button where
  | right | left | up | down | a | b | select | start
deriving DecidableEq, Repr

/-- `pressed[b]` for the eight buttons (R450). -/
structure Buttons where
  right  : Bool
  left   : Bool
  up     : Bool
  down   : Bool
  a      : Bool
  b      : Bool
  select : Bool
  start  : Bool
deriving DecidableEq, Repr

/-- The joypad encoder (R450): `sel` is P1 bits 5..4 as last written. -/
structure Joypad where
  pressed : Buttons
  sel     : BitVec 2
deriving DecidableEq, Repr

/-- SB, and the stored bits 7 and 0 of SC (R47, R475). -/
structure Serial where
  sb    : Byte
  start : Bool
  clock : Bool
deriving DecidableEq, Repr

/-! ### PPU -/

/-- The PPU modes 0, 1, 2, 3 (R460, R461). -/
inductive PpuMode where
  | hblank
  | vblank
  | oamScan
  | drawing
deriving DecidableEq, Repr

/-- The PPU and its registers (R460, R47). `statEnable` is STAT bits 6..3, bit 0 of it being STAT bit 3. -/
structure Ppu where
  mode          : PpuMode
  modeCycles    : Nat
  line          : Nat
  sprites       : List Nat
  bgIndex       : List (BitVec 2)
  work          : List (List Rgba)
  output        : List (List Rgba)
  frameComplete : Bool
  statLine      : Bool
  lcdc          : Byte
  statEnable    : BitVec 4
  scy           : Byte
  scx           : Byte
  lyc           : Byte
  bgp           : Byte
  obp0          : Byte
  obp1          : Byte
  wy            : Byte
  wx            : Byte
deriving DecidableEq, Repr

/-! ### APU -/

/-- The sound registers 0xFF10 to 0xFF25 as stored (R47, R481). NR52 is `Apu.power` and the channels' `enabled`. -/
structure ApuRegs where
  nr10 : Byte
  nr11 : Byte
  nr12 : Byte
  nr13 : Byte
  nr14 : Byte
  nr21 : Byte
  nr22 : Byte
  nr23 : Byte
  nr24 : Byte
  nr30 : Byte
  nr31 : Byte
  nr32 : Byte
  nr33 : Byte
  nr34 : Byte
  nr41 : Byte
  nr42 : Byte
  nr43 : Byte
  nr44 : Byte
  nr50 : Byte
  nr51 : Byte
deriving DecidableEq, Repr

/-- A pulse channel (R480). -/
structure Pulse where
  enabled   : Bool
  length    : Nat
  freqTimer : Nat
  dutyPos   : BitVec 3
  volume    : BitVec 4
  envTimer  : Nat
deriving DecidableEq, Repr

/-- Channel 1's sweep (R480); `active` is `sweepOn`. -/
structure Sweep where
  shadow : BitVec 11
  timer  : Nat
  active : Bool
deriving DecidableEq, Repr

/-- The wave channel (R480); the wave RAM is memory. -/
structure Wave where
  enabled   : Bool
  length    : Nat
  freqTimer : Nat
  wavePos   : BitVec 5
deriving DecidableEq, Repr

/-- The noise channel (R480). -/
structure Noise where
  enabled   : Bool
  length    : Nat
  freqTimer : Nat
  lfsr      : BitVec 15
  volume    : BitVec 4
  envTimer  : Nat
deriving DecidableEq, Repr

/-- The APU (R480), with the sample accumulator and buffer of R492 (oldest sample first). -/
structure Apu where
  power     : Bool
  fsStep    : BitVec 3
  fsAcc     : Nat
  regs      : ApuRegs
  ch1       : Pulse
  sweep     : Sweep
  ch2       : Pulse
  ch3       : Wave
  ch4       : Noise
  sampleAcc : Nat
  samples   : List Sample
deriving DecidableEq, Repr

/-! ### Cartridge -/

/-- A ROM image: its length in bytes, and its bytes as a byte image (unlisted bytes inside the length are 0x00). -/
structure RomImage where
  len   : Nat
  cells : Memory
deriving DecidableEq, Repr

/-- MBC1 registers (R107). -/
structure Mbc1 where
  ramEnable : Bool
  bankLow   : BitVec 5
  secondary : BitVec 2
  mode      : Bool
deriving DecidableEq, Repr

/-- MBC2 registers (R113). -/
structure Mbc2 where
  ramEnable : Bool
  romBank   : BitVec 4
deriving DecidableEq, Repr

/-- The real-time-clock registers of MBC3 (R121). -/
structure Rtc where
  seconds  : BitVec 6
  minutes  : BitVec 6
  hours    : BitVec 5
  daysLow  : Byte
  dayBit8  : Bool
  halt     : Bool
  dayCarry : Bool
deriving DecidableEq, Repr

/-- MBC3 registers (R118). -/
structure Mbc3 where
  ramEnable : Bool
  romBank   : BitVec 7
  select    : Byte
  latchPrev : Byte
  live      : Rtc
  latched   : Rtc
deriving DecidableEq, Repr

/-- MBC5 registers (R125). -/
structure Mbc5 where
  ramEnable : Bool
  romBank   : BitVec 9
  ramBank   : BitVec 4
deriving DecidableEq, Repr

/-- The bank controller, one of the five variants (R104). -/
inductive Mbc where
  | noMbc
  | mbc1 (r : Mbc1)
  | mbc2 (r : Mbc2)
  | mbc3 (r : Mbc3)
  | mbc5 (r : Mbc5)
deriving DecidableEq, Repr

/-- The cartridge (R100): the image, the header fields (R101, R104, R105), the external RAM by offset, the MBC state.
MBC2's internal RAM is `extRam`, one nibble a byte (R117). -/
structure Cart where
  rom      : RomImage
  title    : List Byte
  typeCode : Byte
  romBanks : Nat
  ramBanks : Nat
  battery  : Bool
  mbc      : Mbc
  extRam   : Memory
deriving DecidableEq, Repr

/-! ### The whole machine -/

/-- The machine. `mem` holds video RAM, work RAM, OAM, high RAM and wave RAM by CPU address (R49); `dma` is the register
at 0xFF46; `frameAcc` and `frameTotal` are the System's counters (R530); `cart` is none before the first successful
`loadCartridge` (R523); `config` is the parameters of R10. -/
structure State where
  config     : Config
  regs       : Regs
  cpu        : Cpu
  irq        : Irq
  mem        : Memory
  cart       : Option Cart
  timer      : Timer
  joypad     : Joypad
  serial     : Serial
  ppu        : Ppu
  dma        : Byte
  apu        : Apu
  frameAcc   : Nat
  frameTotal : Nat
deriving DecidableEq, Repr

/-! ### Reset values -/

/-- R51: A=0x01, F=0xB0, B=0x00, C=0x13, D=0x00, E=0xD8, H=0x01, L=0x4D, SP=0xFFFE, PC=0x0100. -/
def Regs.reset : Regs where
  a  := 0x01
  f  := { z := true, n := false, h := true, c := true }
  b  := 0x00
  c  := 0x13
  d  := 0x00
  e  := 0xD8
  h  := 0x01
  l  := 0x4D
  sp := 0xFFFE
  pc := 0x0100

/-- R51: IME=0, halted=0, ei_delay=0, halt_bug=0, stopped=0, fault=none, cycles=0. -/
def Cpu.reset : Cpu where
  ime     := false
  eiDelay := 0
  halted  := false
  haltBug := false
  stopped := false
  fault   := none
  cycles  := 0

/-- R44 and R45: IE[4:0] = 0b00000, IF[4:0] = 0b00001. -/
def Irq.reset : Irq where
  ie    := 0b00000
  iflag := 0b00001

/-- R441. -/
def Timer.reset : Timer where
  div     := 0xAB
  divAcc  := 0
  tima    := 0x00
  tma     := 0x00
  tac     := 0b000
  timaAcc := 0

/-- R450: all buttons released, sel = 0b00. -/
def Joypad.reset : Joypad where
  pressed := ⟨false, false, false, false, false, false, false, false⟩
  sel     := 0b00

/-- R47: SB = 0x00, SC reads 0x7E. -/
def Serial.reset : Serial where
  sb    := 0x00
  start := false
  clock := false

/-- A framebuffer of 144 rows of 160 pixels, every pixel `p` (R460). -/
def blankFrame (p : Rgba) : List (List Rgba) := List.replicate 144 (List.replicate 160 p)

/-- R460, and the PPU registers of R47. -/
def Ppu.reset (shades : Shades) : Ppu where
  mode          := .oamScan
  modeCycles    := 0
  line          := 0
  sprites       := []
  bgIndex       := List.replicate 160 0
  work          := blankFrame shades.s0
  output        := blankFrame shades.s0
  frameComplete := false
  statLine      := false
  lcdc          := 0x91
  statEnable    := 0
  scy           := 0x00
  scx           := 0x00
  lyc           := 0x00
  bgp           := 0xFC
  obp0          := 0xFF
  obp1          := 0xFF
  wy            := 0x00
  wx            := 0x00

/-- R47's reset column. Bits that never read back have no stated stored value and are 0 (DESIGN CHOICE, log entry 5). -/
def ApuRegs.reset : ApuRegs where
  nr10 := 0x00
  nr11 := 0x80
  nr12 := 0xF3
  nr13 := 0x00
  nr14 := 0x00
  nr21 := 0x00
  nr22 := 0x00
  nr23 := 0x00
  nr24 := 0x00
  nr30 := 0x00
  nr31 := 0x00
  nr32 := 0x00
  nr33 := 0x00
  nr34 := 0x00
  nr41 := 0x00
  nr42 := 0x00
  nr43 := 0x00
  nr44 := 0x00
  nr50 := 0x77
  nr51 := 0xF3

/-- R480: a pulse channel at reset. -/
def Pulse.reset : Pulse where
  enabled   := false
  length    := 0
  freqTimer := 0
  dutyPos   := 0
  volume    := 0
  envTimer  := 0

/-- R480; the sample buffer is emptied (R520). R480 resets every counter, timer, position and volume to 0 and does not name
the sweep's shadow frequency and its flag `sweepOn`: both are 0 (DESIGN CHOICE, log entry 5). -/
def Apu.reset : Apu where
  power     := true
  fsStep    := 0
  fsAcc     := 0
  regs      := ApuRegs.reset
  ch1       := Pulse.reset
  sweep     := { shadow := 0, timer := 0, active := false }
  ch2       := Pulse.reset
  ch3       := { enabled := false, length := 0, freqTimer := 0, wavePos := 0 }
  ch4       := { enabled := false, length := 0, freqTimer := 0, lfsr := 0x7FFF, volume := 0, envTimer := 0 }
  sampleAcc := 0
  samples   := []

/-- The machine right after reset, with the default parameters of R10 and no cartridge (R523; log entry 1).
Memory lists nothing: `RAM_INIT` is all zero by default (R10, R49). -/
def State.reset : State where
  config     := Config.standard
  regs       := Regs.reset
  cpu        := Cpu.reset
  irq        := Irq.reset
  mem        := []
  cart       := none
  timer      := Timer.reset
  joypad     := Joypad.reset
  serial     := Serial.reset
  ppu        := Ppu.reset Config.standard.shades
  dma        := 0xFF
  apu        := Apu.reset
  frameAcc   := 0
  frameTotal := 0

end Sys2Proof.Machine
end

