-- ==== Sys2Proof/Machine/Cartridge.lean ====
section
/-! DEFINITION. The cartridge: header, bank controllers MBC1, MBC2, MBC3, MBC5, external RAM (R100 to R133). -/

namespace Sys2Proof.Machine

/-! ### ROM image and header -/

/-- The image byte at an offset; 0xFF at or beyond the image's length (R105). -/
def RomImage.byte (r : RomImage) (offset : Nat) : Byte :=
  if offset < r.len then r.cells.read offset else 0xFF

/-- The image that holds a list of bytes from offset 0. -/
def RomImage.ofBytes (bytes : List Byte) : RomImage where
  len := bytes.length
  cells := Memory.writeAll [] 0 bytes

/-- The sum of R102 over the `n` header bytes from `a`: each contributes −rom[i] − 1. -/
def RomImage.checksumFrom (r : RomImage) (a : Nat) : Nat → Byte
  | 0 => 0
  | n + 1 => (0 - r.byte a - 1) + r.checksumFrom (a + 1) n

/-- R102: `chk`, over 0x134 to 0x14C. -/
def RomImage.checksum (r : RomImage) : Byte := r.checksumFrom 0x134 25

/-- R101: the RAM bank count for RAM-size codes 0 to 5. -/
def ramBankCount (code : Byte) : Nat :=
  match code.toNat with
  | 1 => 1
  | 2 => 1
  | 3 => 4
  | 4 => 16
  | 5 => 8
  | _ => 0

/-- R132: the reset state of the five controllers. -/
def Rtc.zero : Rtc where
  seconds  := 0
  minutes  := 0
  hours    := 0
  daysLow  := 0
  dayBit8  := false
  halt     := false
  dayCarry := false

/-- R132. -/
def Mbc1.reset : Mbc1 := { ramEnable := false, bankLow := 1, secondary := 0, mode := false }

/-- R132. -/
def Mbc2.reset : Mbc2 := { ramEnable := false, romBank := 1 }

/-- R132. -/
def Mbc3.reset : Mbc3 :=
  { ramEnable := false, romBank := 1, select := 0, latchPrev := 0, live := Rtc.zero, latched := Rtc.zero }

/-- R132. -/
def Mbc5.reset : Mbc5 := { ramEnable := false, romBank := 1, ramBank := 0 }

/-- R132: every MBC register at its reset value. -/
def Mbc.reset : Mbc → Mbc
  | .noMbc => .noMbc
  | .mbc1 _ => .mbc1 Mbc1.reset
  | .mbc2 _ => .mbc2 Mbc2.reset
  | .mbc3 _ => .mbc3 Mbc3.reset
  | .mbc5 _ => .mbc5 Mbc5.reset

/-- R104: the controller a type code selects, in its reset state; none for an unrecognised code. -/
def mbcOfType (code : Byte) : Option Mbc :=
  match code.toNat with
  | 0x00 => some .noMbc
  | 0x01 => some (.mbc1 Mbc1.reset)
  | 0x02 => some (.mbc1 Mbc1.reset)
  | 0x03 => some (.mbc1 Mbc1.reset)
  | 0x05 => some (.mbc2 Mbc2.reset)
  | 0x06 => some (.mbc2 Mbc2.reset)
  | 0x0F => some (.mbc3 Mbc3.reset)
  | 0x10 => some (.mbc3 Mbc3.reset)
  | 0x11 => some (.mbc3 Mbc3.reset)
  | 0x12 => some (.mbc3 Mbc3.reset)
  | 0x13 => some (.mbc3 Mbc3.reset)
  | 0x19 => some (.mbc5 Mbc5.reset)
  | 0x1A => some (.mbc5 Mbc5.reset)
  | 0x1B => some (.mbc5 Mbc5.reset)
  | 0x1C => some (.mbc5 Mbc5.reset)
  | 0x1D => some (.mbc5 Mbc5.reset)
  | 0x1E => some (.mbc5 Mbc5.reset)
  | _ => none

/-- R104: the type codes whose battery flag is set. -/
def hasBattery (code : Byte) : Bool :=
  [0x03, 0x06, 0x0F, 0x10, 0x13, 0x1B, 0x1E].contains code

/-- R104, R431, D41: the codes that name a feature this hardware leaves inert: rumble, and the static RTC. -/
def hasInertFeature (code : Byte) : Bool :=
  [0x0F, 0x10, 0x1C, 0x1D, 0x1E].contains code

/-- R131, R117: the size of the external RAM in bytes. -/
def Cart.extRamSize (k : Cart) : Nat :=
  match k.mbc with
  | .mbc2 _ => 512
  | _ => k.ramBanks * 0x2000

/-- R131: an image fitted to the cartridge's external RAM: the bytes inside its size, and for MBC2 bits 3..0 (R117). -/
def Cart.fitRam (k : Cart) (image : Memory) : Memory :=
  let inside := image.restrict 0 k.extRamSize
  match k.mbc with
  | .mbc2 _ => inside.mask 0x0F
  | _ => inside

/-- R103: a loadable image's cartridge with external RAM from `extRamInit`, or from the battery snapshot of the right
length when the battery flag is set (R131); none when the image is not valid. -/
def Cart.ofImage (extRamInit : Memory) (rom : RomImage) (snapshot : Option (List Byte)) : Option Cart :=
  let typeCode := rom.byte 0x147
  let romCode := rom.byte 0x148
  let ramCode := rom.byte 0x149
  if rom.len < 0x8000 ∨ rom.checksum ≠ rom.byte 0x14D ∨ 8 < romCode.toNat ∨ 5 < ramCode.toNat then none
  else
    match mbcOfType typeCode with
    | none => none
    | some mbc =>
      let k : Cart :=
        { rom, title := (List.range 16).map (fun i => rom.byte (0x134 + i)), typeCode
          romBanks := 2 <<< romCode.toNat, ramBanks := ramBankCount ramCode
          battery := hasBattery typeCode, mbc, extRam := [] }
      let image :=
        match snapshot with
        | some bytes => if k.battery ∧ bytes.length = k.extRamSize then Memory.writeAll [] 0 bytes else extRamInit
        | none => extRamInit
      some { k with extRam := k.fitRam image }

/-! ### ROM reads -/

/-- The ROM bank the controller maps at 0x0000..0x3FFF, before R105's reduction (R110, R114, R119, R127). -/
def Mbc.lowBank : Mbc → Nat
  | .mbc1 r => if r.mode then r.secondary.toNat <<< 5 else 0
  | _ => 0

/-- The ROM bank the controller maps at 0x4000..0x7FFF, before R105's reduction (R106, R111, R114, R119, R127). -/
def Mbc.highBank : Mbc → Nat
  | .noMbc => 1
  | .mbc1 r => (r.secondary.toNat <<< 5) ||| r.bankLow.toNat
  | .mbc2 r => r.romBank.toNat
  | .mbc3 r => r.romBank.toNat
  | .mbc5 r => r.romBank.toNat

/-- The image offset of a ROM address: the bank reduced modulo `romBanks`, times 0x4000, plus the address within the
bank (R105). NoMBC reads `rom[a]` directly (R106). -/
def Cart.romOffset (k : Cart) (a : Nat) : Nat :=
  match k.mbc with
  | .noMbc => a
  | mbc => ((if a < 0x4000 then mbc.lowBank else mbc.highBank) % k.romBanks) * 0x4000 + a % 0x4000

/-- R73: a read of 0x0000..0x7FFF. -/
def Cart.readRom (k : Cart) (a : Nat) : Byte := k.rom.byte (k.romOffset a)

/-! ### MBC control writes -/

/-- The RAM-enable test: the low nibble is 0x0A (R107, R113, R118, R125). -/
def ramEnableValue (v : Byte) : Bool := v &&& 0x0F == 0x0A

/-- R107, R108, R109. -/
def Mbc1.control (r : Mbc1) (a : Nat) (v : Byte) : Mbc1 :=
  if a < 0x2000 then { r with ramEnable := ramEnableValue v }
  else if a < 0x4000 then { r with bankLow := if v.setWidth 5 = 0 then 1 else v.setWidth 5 }
  else if a < 0x6000 then { r with secondary := v.setWidth 2 }
  else { r with mode := v.getLsbD 0 }

/-- R113: address bit 8 selects the register. -/
def Mbc2.control (r : Mbc2) (a : Nat) (v : Byte) : Mbc2 :=
  if a < 0x4000 then
    if a.testBit 8 then { r with romBank := if v.setWidth 4 = 0 then 1 else v.setWidth 4 }
    else { r with ramEnable := ramEnableValue v }
  else r

/-- R118, R119, R120, R122. -/
def Mbc3.control (r : Mbc3) (a : Nat) (v : Byte) : Mbc3 :=
  if a < 0x2000 then { r with ramEnable := ramEnableValue v }
  else if a < 0x4000 then { r with romBank := if v.setWidth 7 = 0 then 1 else v.setWidth 7 }
  else if a < 0x6000 then { r with select := v }
  else { r with latched := if r.latchPrev = 0x00 ∧ v = 0x01 then r.live else r.latched, latchPrev := v }

/-- R125, R126. -/
def Mbc5.control (r : Mbc5) (a : Nat) (v : Byte) : Mbc5 :=
  if a < 0x2000 then { r with ramEnable := ramEnableValue v }
  else if a < 0x3000 then { r with romBank := r.romBank.extractLsb' 8 1 ++ v }
  else if a < 0x4000 then { r with romBank := v.extractLsb' 0 1 ++ r.romBank.extractLsb' 0 8 }
  else if a < 0x6000 then { r with ramBank := v.setWidth 4 }
  else r

/-- R73: a write of `v` to `a` in 0x0000..0x7FFF changes only MBC registers. -/
def Mbc.control (m : Mbc) (a : Nat) (v : Byte) : Mbc :=
  match m with
  | .noMbc => .noMbc
  | .mbc1 r => .mbc1 (r.control a v)
  | .mbc2 r => .mbc2 (r.control a v)
  | .mbc3 r => .mbc3 (r.control a v)
  | .mbc5 r => .mbc5 (r.control a v)

/-- A control write to the cartridge (R73). -/
def Cart.control (k : Cart) (a : Nat) (v : Byte) : Cart := { k with mbc := k.mbc.control a v }

/-! ### The external-RAM window -/

/-- What an access to 0xA000..0xBFFF reaches. -/
inductive RamTarget where
  /-- Nothing: reads give 0xFF, writes are ignored. -/
  | none
  /-- A byte of external RAM, by offset. -/
  | byte (offset : Nat)
  /-- A nibble of MBC2's internal RAM, by index. -/
  | nibble (index : Nat)
  /-- An RTC register, by select value. -/
  | rtc (select : Byte)
deriving DecidableEq, Repr

/-- R112: the byte of a RAM bank, the bank reduced modulo `ramBanks` (R105); nothing when there is no RAM. -/
def Cart.bankedRam (k : Cart) (bank a : Nat) : RamTarget :=
  if k.ramBanks = 0 then .none else .byte ((bank % k.ramBanks) * 0x2000 + (a - 0xA000))

/-- What address `a` in 0xA000..0xBFFF reaches (R106, R112, R115, R116, R123, R128). -/
def Cart.ramTarget (k : Cart) (a : Nat) : RamTarget :=
  match k.mbc with
  | .noMbc => .none
  | .mbc1 r => if r.ramEnable then k.bankedRam (if r.mode then r.secondary.toNat else 0) a else .none
  | .mbc2 r => if r.ramEnable ∧ a < 0xA200 then .nibble (a - 0xA000) else .none
  | .mbc3 r =>
    if r.ramEnable then
      if r.select.toNat < 4 then k.bankedRam r.select.toNat a
      else if 0x08 ≤ r.select.toNat ∧ r.select.toNat ≤ 0x0C then .rtc r.select
      else .none
    else .none
  | .mbc5 r => if r.ramEnable then k.bankedRam r.ramBank.toNat a else .none

/-- R121: an RTC register as a byte; bits outside its field read 0. -/
def Rtc.read (t : Rtc) (select : Byte) : Byte :=
  match select.toNat with
  | 0x08 => t.seconds.setWidth 8
  | 0x09 => t.minutes.setWidth 8
  | 0x0A => t.hours.setWidth 8
  | 0x0B => t.daysLow
  | _ => bitByte t.dayBit8 ||| (bitByte t.halt <<< 6) ||| (bitByte t.dayCarry <<< 7)

/-- R121, R123: a write masked to the register's field. -/
def Rtc.write (t : Rtc) (select v : Byte) : Rtc :=
  match select.toNat with
  | 0x08 => { t with seconds := v.setWidth 6 }
  | 0x09 => { t with minutes := v.setWidth 6 }
  | 0x0A => { t with hours := v.setWidth 5 }
  | 0x0B => { t with daysLow := v }
  | _ => { t with dayBit8 := v.getLsbD 0, halt := v.getLsbD 6, dayCarry := v.getLsbD 7 }

/-- R123: a read of a selected RTC register gives the latched one. -/
def Mbc.readRtc (m : Mbc) (select : Byte) : Byte :=
  match m with
  | .mbc3 r => r.latched.read select
  | _ => 0xFF

/-- R123: a write of a selected RTC register goes to the live one. -/
def Mbc.writeRtc (m : Mbc) (select v : Byte) : Mbc :=
  match m with
  | .mbc3 r => .mbc3 { r with live := r.live.write select v }
  | m => m

/-- R75: a read of 0xA000..0xBFFF. -/
def Cart.readRam (k : Cart) (a : Nat) : Byte :=
  match k.ramTarget a with
  | .none => 0xFF
  | .byte offset => k.extRam.read offset
  | .nibble index => 0xF0 ||| k.extRam.read index
  | .rtc select => k.mbc.readRtc select

/-- R75: a write to 0xA000..0xBFFF. -/
def Cart.writeRam (k : Cart) (a : Nat) (v : Byte) : Cart :=
  match k.ramTarget a with
  | .none => k
  | .byte offset => { k with extRam := k.extRam.write offset v }
  | .nibble index => { k with extRam := k.extRam.write index (v &&& 0x0F) }
  | .rtc select => { k with mbc := k.mbc.writeRtc select v }

end Sys2Proof.Machine
end

