-- ==== Sys2Proof/Machine/Interrupts.lean ====
section
/-! DEFINITION. The interrupt request bits: requesting, the pending set, priority and vectors (R44 to R46, R410 to R416). -/

namespace Sys2Proof.Machine

/-- The five sources; the constructor's place is the bit of IE and IF, lower bits first (R46). -/
inductive IrqSource where
  | vblank
  | lcdStat
  | timer
  | serial
  | joypad
deriving DecidableEq, Repr

/-- The source's bit index in IE and IF (R46). -/
def IrqSource.index : IrqSource → Nat
  | .vblank => 0
  | .lcdStat => 1
  | .timer => 2
  | .serial => 3
  | .joypad => 4

/-- R46, R416: the source's vector. -/
def IrqSource.vector : IrqSource → Word
  | .vblank => 0x0040
  | .lcdStat => 0x0048
  | .timer => 0x0050
  | .serial => 0x0058
  | .joypad => 0x0060

/-- The source's one-bit mask. -/
def IrqSource.mask (k : IrqSource) : BitVec 5 := 1#5 <<< k.index

/-- R410: a request sets the source's IF bit, whether or not IE enables it. -/
def Irq.request (q : Irq) (k : IrqSource) : Irq := { q with iflag := q.iflag ||| k.mask }

/-- R412: dispatch clears the source's IF bit and leaves every other IF bit. -/
def Irq.acknowledge (q : Irq) (k : IrqSource) : Irq := { q with iflag := q.iflag &&& ~~~k.mask }

/-- R411: `pending = IE & IF & 0x1F`. -/
def Irq.pending (q : Irq) : BitVec 5 := q.ie &&& q.iflag

/-- R411: the pending source of the lowest bit index. -/
def Irq.first (q : Irq) : Option IrqSource :=
  if q.pending.getLsbD 0 then some .vblank
  else if q.pending.getLsbD 1 then some .lcdStat
  else if q.pending.getLsbD 2 then some .timer
  else if q.pending.getLsbD 3 then some .serial
  else if q.pending.getLsbD 4 then some .joypad
  else none

/-- A device's request (R410). -/
def State.request (s : State) (k : IrqSource) : State := { s with irq := s.irq.request k }

end Sys2Proof.Machine
end

