-- ==== Sys2Proof/Machine/Clock.lean ====
section
/-! DEFINITION. The timer (R440 to R445) and the joypad encoder (R450 to R453). -/

namespace Sys2Proof.Machine

/-! ### Timer -/

/-- R443: the TIMA period in cycles for TAC[1:0]. -/
def timaPeriod (tac : BitVec 3) : Nat :=
  match (tac.extractLsb' 0 2).toNat with
  | 0 => 1024
  | 1 => 16
  | 2 => 64
  | _ => 256

/-- R442: DIV counts every 256 cycles, the residual carried. -/
def Timer.advanceDiv (n : Nat) (t : Timer) : Timer :=
  { t with div := t.div + BitVec.ofNat 8 ((t.divAcc + n) / 256), divAcc := (t.divAcc + n) % 256 }

/-- R443: one increment of TIMA; past 0xFF it reloads from TMA, and the Bool says that the interrupt is requested. -/
def Timer.countOne (t : Timer) : Timer × Bool :=
  if t.tima = 0xFF then ({ t with tima := t.tma }, true) else ({ t with tima := t.tima + 1 }, false)

/-- R443: `k` increments of TIMA; the Bool says that some increment overflowed. -/
def Timer.count : Nat → Timer → Timer × Bool
  | 0, t => (t, false)
  | k + 1, t =>
    let (t, first) := t.countOne
    let (t, later) := Timer.count k t
    (t, first || later)

/-- R443: TIMA, when TAC bit 2 is set, counts every period, the residual carried. -/
def Timer.advanceTima (n : Nat) (t : Timer) : Timer × Bool :=
  if t.tac.getLsbD 2 then
    let period := timaPeriod t.tac
    let elapsed := t.timaAcc + n
    let (t, overflowed) := Timer.count (elapsed / period) t
    ({ t with timaAcc := elapsed % period }, overflowed)
  else (t, false)

/-- R442, R443: `timer.advance(N)`, DIV before TIMA; an overflow requests the timer interrupt. -/
def State.timerAdvance (n : Nat) (s : State) : State :=
  let (timer, overflowed) := (s.timer.advanceDiv n).advanceTima n
  let s := { s with timer }
  if overflowed then s.request .timer else s

/-- R442: a write of any value to DIV. -/
def Timer.writeDiv (t : Timer) : Timer := { t with div := 0, divAcc := 0 }

/-- R444: a write to TAC stores bits 2..0 and clears the residual. -/
def Timer.writeTac (t : Timer) (v : Byte) : Timer := { t with tac := v.setWidth 3, timaAcc := 0 }

/-! ### Joypad -/

/-- R450: the P1 line `bit` of the direction column, low when its button is pressed. -/
def Buttons.directions (b : Buttons) : BitVec 4 :=
  BitVec.ofBool (!b.down) ++ BitVec.ofBool (!b.up) ++ BitVec.ofBool (!b.left) ++ BitVec.ofBool (!b.right)

/-- R450: the P1 lines of the action column. -/
def Buttons.actions (b : Buttons) : BitVec 4 :=
  BitVec.ofBool (!b.start) ++ BitVec.ofBool (!b.select) ++ BitVec.ofBool (!b.b) ++ BitVec.ofBool (!b.a)

/-- R450: the direction column is selected (P1 bit 4 = 0). -/
def Joypad.directionsSelected (j : Joypad) : Bool := !j.sel.getLsbD 0

/-- R450: the action column is selected (P1 bit 5 = 0). -/
def Joypad.actionsSelected (j : Joypad) : Bool := !j.sel.getLsbD 1

/-- R450: `keys`, the selected columns combined. -/
def Joypad.keys (j : Joypad) : BitVec 4 :=
  (if j.directionsSelected then j.pressed.directions else 0xF) &&& (if j.actionsSelected then j.pressed.actions else 0xF)

/-- R450: a read of P1 gives `0xC0 | sel << 4 | keys`. -/
def Joypad.p1 (j : Joypad) : Byte := 0b11#2 ++ j.sel ++ j.keys

/-- R451: a write to P1 stores bits 5..4. -/
def Joypad.writeP1 (j : Joypad) (v : Byte) : Joypad := { j with sel := v.extractLsb' 4 2 }

/-- R450: a button's flag. -/
def Buttons.get (b : Buttons) : Button → Bool
  | .right => b.right
  | .left => b.left
  | .up => b.up
  | .down => b.down
  | .a => b.a
  | .b => b.b
  | .select => b.select
  | .start => b.start

/-- R452: `pressed[b] <- p`. -/
def Buttons.set (b : Buttons) (k : Button) (p : Bool) : Buttons :=
  match k with
  | .right => { b with right := p }
  | .left => { b with left := p }
  | .up => { b with up := p }
  | .down => { b with down := p }
  | .a => { b with a := p }
  | .b => { b with b := p }
  | .select => { b with select := p }
  | .start => { b with start := p }

/-- R452: the column a button is in. -/
def Button.isDirection : Button → Bool
  | .right => true
  | .left => true
  | .up => true
  | .down => true
  | .a => false
  | .b => false
  | .select => false
  | .start => false

/-- R452: the button's column is selected. -/
def Joypad.columnSelected (j : Joypad) (k : Button) : Bool :=
  if k.isDirection then j.directionsSelected else j.actionsSelected

/-- R453: `joypad.advance(N)` changes nothing. -/
def State.joypadAdvance (_n : Nat) (s : State) : State := s

end Sys2Proof.Machine
end

