-- ==== Sys2Proof/Machine/Sound.lean ====
section
/-! DEFINITION. The APU: frame sequencer, channels, register side effects, mixing (R480 to R492). -/

namespace Sys2Proof.Machine

/-! ### Register fields -/

/-- NRx4 and NRx3 as the 11-bit frequency `NRx4[2:0] << 8 | NRx3` (R487, R488). -/
def frequency (nrx3 nrx4 : Byte) : BitVec 11 := nrx4.extractLsb' 0 3 ++ nrx3

/-- R487: a pulse channel's period in cycles, `(2048 − f) × 4`. -/
def pulsePeriod (f : BitVec 11) : Nat := (2048 - f.toNat) * 4

/-- R488: the wave channel's period in cycles, `(2048 − f) × 2`. -/
def wavePeriod (f : BitVec 11) : Nat := (2048 - f.toNat) * 2

/-- R489: the divisor for NR43[2:0]. -/
def noiseDivisor (r : BitVec 3) : Nat :=
  match r.toNat with
  | 0 => 8
  | 1 => 16
  | 2 => 32
  | 3 => 48
  | 4 => 64
  | 5 => 80
  | 6 => 96
  | _ => 112

/-- R10: `NOISE_CLOCK_SCALE` as a number. -/
def noiseScaleValue : NoiseScale → Nat
  | .eight => 8
  | .one => 1

/-- NR43[7:4], the clock shift (R489). -/
def noiseShift (nr43 : Byte) : Nat := (nr43.extractLsb' 4 4).toNat

/-- R489: the noise channel's period, `NOISE_CLOCK_SCALE × div × 2^s`. -/
def noisePeriod (scale : NoiseScale) (nr43 : Byte) : Nat :=
  noiseScaleValue scale * noiseDivisor (nr43.extractLsb' 0 3) * 2 ^ noiseShift nr43

/-- R481: an NRx2 value with bits 7..3 zero turns the channel's DAC off. -/
def dacOn (nrx2 : Byte) : Bool := nrx2 &&& 0xF8 != 0

/-- NRx4 bit 6, the length enable (R483). -/
def lengthEnabled (nrx4 : Byte) : Bool := nrx4.getLsbD 6

/-! ### Frame sequencer -/

/-- R483: a length clock on a channel with length-enable `on`: the counter and `enabled` after it. -/
def clockLength (on : Bool) (length : Nat) (enabled : Bool) : Nat × Bool :=
  if on && 0 < length then (length - 1, enabled && length != 1) else (length, enabled)

/-- R483: the length clock on all four channels. -/
def Apu.clockLengths (a : Apu) : Apu :=
  let (l1, e1) := clockLength (lengthEnabled a.regs.nr14) a.ch1.length a.ch1.enabled
  let (l2, e2) := clockLength (lengthEnabled a.regs.nr24) a.ch2.length a.ch2.enabled
  let (l3, e3) := clockLength (lengthEnabled a.regs.nr34) a.ch3.length a.ch3.enabled
  let (l4, e4) := clockLength (lengthEnabled a.regs.nr44) a.ch4.length a.ch4.enabled
  { a with
    ch1 := { a.ch1 with length := l1, enabled := e1 }
    ch2 := { a.ch2 with length := l2, enabled := e2 }
    ch3 := { a.ch3 with length := l3, enabled := e3 }
    ch4 := { a.ch4 with length := l4, enabled := e4 } }

/-- A timer decremented; from 0 the value is free (log entry 6). -/
def decrementTimer (underflow t : Nat) : Nat := if t = 0 then underflow else t - 1

/-- R484: an envelope clock with register NRx2: volume and envelope timer after it. -/
def clockEnvelope (nrx2 : Byte) (volume : BitVec 4) (timer : Nat) : BitVec 4 × Nat :=
  let p := (nrx2.extractLsb' 0 3).toNat
  if p = 0 then (volume, timer)
  else
    let t := decrementTimer Config.envTimerUnderflow timer
    if t = 0 then
      (if nrx2.getLsbD 3 then (if volume = 15 then volume else volume + 1) else (if volume = 0 then volume else volume - 1), p)
    else (volume, t)

/-- R484: the envelope clock on channels 1, 2 and 4. -/
def Apu.clockEnvelopes (a : Apu) : Apu :=
  let (v1, t1) := clockEnvelope a.regs.nr12 a.ch1.volume a.ch1.envTimer
  let (v2, t2) := clockEnvelope a.regs.nr22 a.ch2.volume a.ch2.envTimer
  let (v4, t4) := clockEnvelope a.regs.nr42 a.ch4.volume a.ch4.envTimer
  { a with
    ch1 := { a.ch1 with volume := v1, envTimer := t1 }
    ch2 := { a.ch2 with volume := v2, envTimer := t2 }
    ch4 := { a.ch4 with volume := v4, envTimer := t4 } }

/-- NR10[6:4], the sweep period (R485). -/
def sweepPeriod (nr10 : Byte) : Nat := (nr10.extractLsb' 4 3).toNat

/-- NR10[2:0], the sweep shift (R485). -/
def sweepShift (nr10 : Byte) : Nat := (nr10.extractLsb' 0 3).toNat

/-- What a sweep timer is loaded with: the period, 8 for period 0 (R485, R486). -/
def sweepReload (nr10 : Byte) : Nat := if sweepPeriod nr10 = 0 then 8 else sweepPeriod nr10

/-- R485: `f' = shadow ∓ (shadow >> s)`, subtracting when NR10 bit 3 is set. -/
def sweepTarget (nr10 : Byte) (shadow : BitVec 11) : Nat :=
  if nr10.getLsbD 3 then shadow.toNat - shadow.toNat >>> sweepShift nr10
  else shadow.toNat + shadow.toNat >>> sweepShift nr10

/-- R485: the overflow test disables channel 1 when the target is above 2047. -/
def Apu.sweepOverflowTest (a : Apu) : Apu :=
  if 2047 < sweepTarget a.regs.nr10 a.sweep.shadow then { a with ch1 := { a.ch1 with enabled := false } } else a

/-- R485: the frequency f' becomes the shadow and channel 1's frequency (NR13 and NR14 bits 2..0). -/
def Apu.setSweepFrequency (a : Apu) (f : BitVec 11) : Apu :=
  { a with
    sweep := { a.sweep with shadow := f }
    regs := { a.regs with nr13 := f.extractLsb' 0 8, nr14 := a.regs.nr14.extractLsb' 3 5 ++ f.extractLsb' 8 3 } }

/-- R485: a sweep clock. -/
def Apu.clockSweep (a : Apu) : Apu :=
  let t := decrementTimer Config.sweepTimerUnderflow a.sweep.timer
  if t = 0 then
    let reloaded := { a with sweep := { a.sweep with timer := sweepReload a.regs.nr10 } }
    if a.sweep.active && sweepPeriod a.regs.nr10 != 0 then
      let f := sweepTarget a.regs.nr10 a.sweep.shadow
      if 2047 < f then { reloaded with ch1 := { a.ch1 with enabled := false } }
      else if sweepShift a.regs.nr10 = 0 then reloaded
      else (reloaded.setSweepFrequency (BitVec.ofNat 11 f)).sweepOverflowTest
    else reloaded
  else { a with sweep := { a.sweep with timer := t } }

/-- R482: one clock of the frame sequencer. -/
def Apu.clockSequencer (a : Apu) : Apu :=
  let clocked :=
    match a.fsStep.toNat with
    | 0 => a.clockLengths
    | 2 => a.clockLengths.clockSweep
    | 4 => a.clockLengths
    | 6 => a.clockLengths.clockSweep
    | 7 => a.clockEnvelopes
    | _ => a
  { clocked with fsStep := a.fsStep + 1 }

/-- A function applied `k` times. -/
def iterate {α : Type} (f : α → α) : Nat → α → α
  | 0, x => x
  | k + 1, x => iterate f k (f x)

/-- R482: while `power = 1`, the sequencer is clocked every 8192 cycles. -/
def Apu.advanceSequencer (n : Nat) (a : Apu) : Apu :=
  if a.power then
    { iterate Apu.clockSequencer ((a.fsAcc + n) / 8192) a with fsAcc := (a.fsAcc + n) % 8192 }
  else a

/-! ### Channel timers -/

/-- A frequency timer with `left` cycles of its period left, `n` cycles on: how often the period ended, and the cycles
then left (R487 to R489; log entry 12). -/
def runTimer (period left n : Nat) : Nat × Nat :=
  if n < left then (0, left - n) else (1 + (n - left) / period, period - (n - left) % period)

/-- R487: a pulse channel's phase advances once a period. -/
def Pulse.advance (c : Pulse) (period n : Nat) : Pulse :=
  let (k, left) := runTimer period c.freqTimer n
  { c with dutyPos := c.dutyPos + BitVec.ofNat 3 k, freqTimer := left }

/-- R488: the wave position advances once a period. -/
def Wave.advance (c : Wave) (period n : Nat) : Wave :=
  let (k, left) := runTimer period c.freqTimer n
  { c with wavePos := c.wavePos + BitVec.ofNat 5 k, freqTimer := left }

/-- R489: one LFSR clock: `b = lfsr[0] xor lfsr[1]`, shifted in at bit 14, and at bit 6 in width mode. -/
def clockLfsr (narrow : Bool) (lfsr : BitVec 15) : BitVec 15 :=
  let b := lfsr.getLsbD 0 != lfsr.getLsbD 1
  let shifted := BitVec.ofBool b ++ lfsr.extractLsb' 1 14
  if narrow then (shifted &&& ~~~(1#15 <<< 6)) ||| ((BitVec.ofBool b).setWidth 15 <<< 6) else shifted

/-- R489: the LFSR is clocked once a period; for a shift of 14 or more it is not clocked. -/
def Noise.advance (c : Noise) (scale : NoiseScale) (nr43 : Byte) (n : Nat) : Noise :=
  if 14 ≤ noiseShift nr43 then c
  else
    let (k, left) := runTimer (noisePeriod scale nr43) c.freqTimer n
    { c with lfsr := iterate (clockLfsr (nr43.getLsbD 3)) k c.lfsr, freqTimer := left }

/-- R487 to R489: the four channels' timers. -/
def Apu.advanceChannels (scale : NoiseScale) (n : Nat) (a : Apu) : Apu :=
  { a with
    ch1 := a.ch1.advance (pulsePeriod (frequency a.regs.nr13 a.regs.nr14)) n
    ch2 := a.ch2.advance (pulsePeriod (frequency a.regs.nr23 a.regs.nr24)) n
    ch3 := a.ch3.advance (wavePeriod (frequency a.regs.nr33 a.regs.nr34)) n
    ch4 := a.ch4.advance scale a.regs.nr43 n }

/-! ### Amplitudes, mixing, samples -/

/-- R487: the four duty patterns, listed for `dutyPos` 0 to 7. -/
def dutyPattern (duty : BitVec 2) : List Bool :=
  match duty.toNat with
  | 0 => [false, false, false, false, false, false, false, true]
  | 1 => [true, false, false, false, false, false, false, true]
  | 2 => [true, false, false, false, false, true, true, true]
  | _ => [false, true, true, true, true, true, true, false]

/-- R487: the pulse amplitude. -/
def Pulse.amplitude (c : Pulse) (nrx1 : Byte) : Nat :=
  if c.enabled && (dutyPattern (nrx1.extractLsb' 6 2)).getD c.dutyPos.toNat false then c.volume.toNat else 0

/-- R488: sample i of the wave RAM. -/
def waveSample (mem : Memory) (i : Nat) : Nat :=
  let v := (mem.read (0xFF30 + i / 2)).toNat
  if i % 2 = 0 then v / 16 else v % 16

/-- R488: the wave amplitude, `sample >> shift` with shift 4, 0, 1, 2 for the volume code. -/
def Wave.amplitude (c : Wave) (mem : Memory) (nr32 : Byte) : Nat :=
  let shift := match (nr32.extractLsb' 5 2).toNat with
    | 0 => 4
    | 1 => 0
    | 2 => 1
    | _ => 2
  if c.enabled then waveSample mem c.wavePos.toNat >>> shift else 0

/-- R489: the noise amplitude. -/
def Noise.amplitude (c : Noise) : Nat := if c.enabled && !c.lfsr.getLsbD 0 then c.volume.toNat else 0

/-- R491: one side of the default MIX: `64 × (volume + 1) × Σ a_n` over the channels routed there. -/
def mixSide (volume : BitVec 3) (route : BitVec 4) (a1 a2 a3 a4 : Nat) : BitVec 16 :=
  let pick (i a : Nat) : Nat := if route.getLsbD i then a else 0
  BitVec.ofNat 16 (64 * (volume.toNat + 1) * (pick 0 a1 + pick 1 a2 + pick 2 a3 + pick 3 a4))

/-- R491: MIX, by the law the configuration names. -/
def mixSample (law : MixLaw) (a1 a2 a3 a4 : Nat) (nr50 nr51 : Byte) : Sample :=
  match law with
  | .table =>
    { left := mixSide (nr50.extractLsb' 4 3) (nr51.extractLsb' 4 4) a1 a2 a3 a4
      right := mixSide (nr50.extractLsb' 0 3) (nr51.extractLsb' 0 4) a1 a2 a3 a4 }
  | .host n => Config.hostMix n a1 a2 a3 a4 nr50 nr51

/-- R491: the stereo sample now; (0, 0) with the power off. -/
def Apu.sample (a : Apu) (law : MixLaw) (mem : Memory) : Sample :=
  if a.power then
    mixSample law (a.ch1.amplitude a.regs.nr11) (a.ch2.amplitude a.regs.nr21) (a.ch3.amplitude mem a.regs.nr32)
      a.ch4.amplitude a.regs.nr50 a.regs.nr51
  else { left := 0, right := 0 }

/-- R492: append a sample to the bounded buffer; when full, the oldest is dropped. -/
def pushSample (capacity : Nat) (x : Sample) (buffer : List Sample) : List Sample :=
  (buffer ++ [x]).drop (buffer.length + 1 - capacity)

/-- R492: a sample every `4,194,304 / AUDIO_SAMPLE_RATE` cycles, the residual carried. -/
def Apu.produceSamples (c : Config) (mem : Memory) (n : Nat) (a : Apu) : Apu :=
  let acc := a.sampleAcc + n * c.sampleRate
  { a with
    samples := iterate (pushSample c.bufferCapacity (a.sample c.mix mem)) (acc / 4194304) a.samples
    sampleAcc := acc % 4194304 }

/-- `apu.advance(N)`: the sequencer, the channel timers, the samples (R482, R487 to R489, R492; log entry 10). -/
def State.apuAdvance (n : Nat) (s : State) : State :=
  { s with apu := ((s.apu.advanceSequencer n).advanceChannels s.config.noiseScale n).produceSamples s.config s.mem n }

/-! ### Triggers (R486) -/

/-- R486: a length of 0 is reloaded with the channel's maximum. -/
def reloadLength (length max : Nat) : Nat := if length = 0 then max else length

/-- R486: the trigger of a pulse channel. -/
def Pulse.trigger (c : Pulse) (nrx2 : Byte) (f : BitVec 11) : Pulse :=
  { c with
    enabled := dacOn nrx2, length := reloadLength c.length 64, freqTimer := pulsePeriod f
    volume := nrx2.extractLsb' 4 4, envTimer := (nrx2.extractLsb' 0 3).toNat }

/-- R486: the trigger of channel 1, its sweep included. -/
def Apu.trigger1 (a : Apu) : Apu :=
  let f := frequency a.regs.nr13 a.regs.nr14
  let a :=
    { a with
      ch1 := a.ch1.trigger a.regs.nr12 f
      sweep :=
        { shadow := f, timer := sweepReload a.regs.nr10
          active := sweepPeriod a.regs.nr10 != 0 || sweepShift a.regs.nr10 != 0 } }
  if sweepShift a.regs.nr10 = 0 then a else a.sweepOverflowTest

/-- R486: the trigger of channel 2. -/
def Apu.trigger2 (a : Apu) : Apu :=
  { a with ch2 := a.ch2.trigger a.regs.nr22 (frequency a.regs.nr23 a.regs.nr24) }

/-- R486: the trigger of channel 3; its DAC is NR30 bit 7. -/
def Apu.trigger3 (a : Apu) : Apu :=
  { a with
    ch3 :=
      { enabled := a.regs.nr30.getLsbD 7, length := reloadLength a.ch3.length 256
        freqTimer := wavePeriod (frequency a.regs.nr33 a.regs.nr34), wavePos := 0 } }

/-- R486: the trigger of channel 4. -/
def Apu.trigger4 (scale : NoiseScale) (a : Apu) : Apu :=
  { a with
    ch4 :=
      { enabled := dacOn a.regs.nr42, length := reloadLength a.ch4.length 64
        freqTimer := noisePeriod scale a.regs.nr43, lfsr := 0x7FFF
        volume := a.regs.nr42.extractLsb' 4 4, envTimer := (a.regs.nr42.extractLsb' 0 3).toNat } }

/-! ### Register writes (R481, R490) -/

/-- The sound registers 0xFF10 to 0xFF25 (R47). -/
inductive SoundReg where
  | nr10 | nr11 | nr12 | nr13 | nr14
  | nr21 | nr22 | nr23 | nr24
  | nr30 | nr31 | nr32 | nr33 | nr34
  | nr41 | nr42 | nr43 | nr44
  | nr50 | nr51
deriving DecidableEq, Repr

/-- The stored value of a sound register. -/
def ApuRegs.get (r : ApuRegs) : SoundReg → Byte
  | .nr10 => r.nr10
  | .nr11 => r.nr11
  | .nr12 => r.nr12
  | .nr13 => r.nr13
  | .nr14 => r.nr14
  | .nr21 => r.nr21
  | .nr22 => r.nr22
  | .nr23 => r.nr23
  | .nr24 => r.nr24
  | .nr30 => r.nr30
  | .nr31 => r.nr31
  | .nr32 => r.nr32
  | .nr33 => r.nr33
  | .nr34 => r.nr34
  | .nr41 => r.nr41
  | .nr42 => r.nr42
  | .nr43 => r.nr43
  | .nr44 => r.nr44
  | .nr50 => r.nr50
  | .nr51 => r.nr51

/-- Store a value in a sound register. -/
def ApuRegs.set (r : ApuRegs) (k : SoundReg) (v : Byte) : ApuRegs :=
  match k with
  | .nr10 => { r with nr10 := v }
  | .nr11 => { r with nr11 := v }
  | .nr12 => { r with nr12 := v }
  | .nr13 => { r with nr13 := v }
  | .nr14 => { r with nr14 := v }
  | .nr21 => { r with nr21 := v }
  | .nr22 => { r with nr22 := v }
  | .nr23 => { r with nr23 := v }
  | .nr24 => { r with nr24 := v }
  | .nr30 => { r with nr30 := v }
  | .nr31 => { r with nr31 := v }
  | .nr32 => { r with nr32 := v }
  | .nr33 => { r with nr33 := v }
  | .nr34 => { r with nr34 := v }
  | .nr41 => { r with nr41 := v }
  | .nr42 => { r with nr42 := v }
  | .nr43 => { r with nr43 := v }
  | .nr44 => { r with nr44 := v }
  | .nr50 => { r with nr50 := v }
  | .nr51 => { r with nr51 := v }

/-- R47: the bits of a sound register that read as 1 whatever is stored. -/
def soundReadMask : SoundReg → Byte
  | .nr10 => 0x80
  | .nr11 => 0x3F
  | .nr12 => 0x00
  | .nr13 => 0xFF
  | .nr14 => 0xBF
  | .nr21 => 0x3F
  | .nr22 => 0x00
  | .nr23 => 0xFF
  | .nr24 => 0xBF
  | .nr30 => 0x7F
  | .nr31 => 0xFF
  | .nr32 => 0x9F
  | .nr33 => 0xFF
  | .nr34 => 0xBF
  | .nr41 => 0xFF
  | .nr42 => 0x00
  | .nr43 => 0x00
  | .nr44 => 0xBF
  | .nr50 => 0x00
  | .nr51 => 0x00

/-- R47: what a read of a sound register gives. -/
def ApuRegs.read (r : ApuRegs) (k : SoundReg) : Byte := r.get k ||| soundReadMask k

/-- R481: what a write of `v` to a sound register does beside storing it. -/
def Apu.soundEffect (scale : NoiseScale) (a : Apu) (k : SoundReg) (v : Byte) : Apu :=
  match k with
  | .nr11 => { a with ch1 := { a.ch1 with length := 64 - (v &&& 0x3F).toNat } }
  | .nr21 => { a with ch2 := { a.ch2 with length := 64 - (v &&& 0x3F).toNat } }
  | .nr41 => { a with ch4 := { a.ch4 with length := 64 - (v &&& 0x3F).toNat } }
  | .nr31 => { a with ch3 := { a.ch3 with length := 256 - v.toNat } }
  | .nr12 => if dacOn v then a else { a with ch1 := { a.ch1 with enabled := false } }
  | .nr22 => if dacOn v then a else { a with ch2 := { a.ch2 with enabled := false } }
  | .nr42 => if dacOn v then a else { a with ch4 := { a.ch4 with enabled := false } }
  | .nr30 => if v.getLsbD 7 then a else { a with ch3 := { a.ch3 with enabled := false } }
  | .nr14 => if v.getLsbD 7 then a.trigger1 else a
  | .nr24 => if v.getLsbD 7 then a.trigger2 else a
  | .nr34 => if v.getLsbD 7 then a.trigger3 else a
  | .nr44 => if v.getLsbD 7 then a.trigger4 scale else a
  | .nr10 => a
  | .nr13 => a
  | .nr23 => a
  | .nr32 => a
  | .nr33 => a
  | .nr43 => a
  | .nr50 => a
  | .nr51 => a

/-- R481: a write to 0xFF10..0xFF25: stored and acted on while the power is on, ignored while it is off. -/
def Apu.writeSound (scale : NoiseScale) (a : Apu) (k : SoundReg) (v : Byte) : Apu :=
  if a.power then Apu.soundEffect scale { a with regs := a.regs.set k v } k v else a

/-- R490: every register 0xFF10..0xFF25 at 0. -/
def ApuRegs.zero : ApuRegs :=
  ⟨0, 0, 0, 0, 0, 0, 0, 0, 0, 0, 0, 0, 0, 0, 0, 0, 0, 0, 0, 0⟩

/-- R490: a write to NR52 stores bit 7 as `power`; switching off clears the registers and disables the channels,
switching on restarts the frame sequencer. -/
def Apu.writeNr52 (a : Apu) (v : Byte) : Apu :=
  let now := v.getLsbD 7
  if a.power && !now then
    { a with
      power := false, regs := ApuRegs.zero
      ch1 := { a.ch1 with enabled := false }, ch2 := { a.ch2 with enabled := false }
      ch3 := { a.ch3 with enabled := false }, ch4 := { a.ch4 with enabled := false } }
  else if !a.power && now then { a with power := true, fsStep := 0, fsAcc := 0 }
  else a

/-- R490: a read of NR52. -/
def Apu.nr52 (a : Apu) : Byte :=
  BitVec.ofBool a.power ++ 0b111#3 ++ BitVec.ofBool a.ch4.enabled ++ BitVec.ofBool a.ch3.enabled ++
    BitVec.ofBool a.ch2.enabled ++ BitVec.ofBool a.ch1.enabled

end Sys2Proof.Machine
end

