-- ==== Sys2Proof/Machine/Video.lean ====
section
/-! DEFINITION. The PPU: mode sequence, STAT line, OAM scan, line renderer, register side effects (R460 to R473). -/

namespace Sys2Proof.Machine

/-! ### Register views -/

/-- STAT bits 1..0: the mode number (R460). -/
def PpuMode.bits : PpuMode → BitVec 2
  | .hblank => 0
  | .vblank => 1
  | .oamScan => 2
  | .drawing => 3

/-- LCDC bit 7. -/
def Ppu.lcdOn (p : Ppu) : Bool := p.lcdc.getLsbD 7

/-- R465: `coincidence = (line == LYC)`. -/
def Ppu.coincidence (p : Ppu) : Bool := p.line == p.lyc.toNat

/-- R465: a read of STAT gives `0x80 | STAT[6:3] << 3 | coincidence << 2 | mode`. -/
def Ppu.statByte (p : Ppu) : Byte := 1#1 ++ p.statEnable ++ BitVec.ofBool p.coincidence ++ p.mode.bits

/-- R465: the level of the STAT interrupt line. -/
def Ppu.statLevel (p : Ppu) : Bool :=
  p.lcdOn &&
    ((p.statEnable.getLsbD 0 && p.mode == .hblank) || (p.statEnable.getLsbD 1 && p.mode == .vblank) ||
      (p.statEnable.getLsbD 2 && p.mode == .oamScan) || (p.statEnable.getLsbD 3 && p.coincidence))

/-- R465: evaluate the STAT line; a rise requests the LCD-STAT interrupt. -/
def State.evalStat (s : State) : State :=
  let level := s.ppu.statLevel
  let s := if level && !s.ppu.statLine then s.request .lcdStat else s
  { s with ppu := { s.ppu with statLine := level } }

/-! ### Tiles -/

/-- The colour index of column `col` of a tile row whose two bit planes are `lo` and `hi` (R464). -/
def planeIndex (lo hi : Byte) (col : Nat) : BitVec 2 :=
  BitVec.ofBool (hi.getLsbD (7 - col)) ++ BitVec.ofBool (lo.getLsbD (7 - col))

/-- R464: the address of background and window tile `t`, by LCDC bit 4. -/
def Ppu.tileAddr (p : Ppu) (t : Byte) : Nat :=
  if p.lcdc.getLsbD 4 then 0x8000 + 16 * t.toNat else (0x9000 + 16 * t.toInt).toNat

/-- R464: the colour index at pixel (xx, yy) of the tile map at `mapBase`. -/
def Ppu.mapPixel (p : Ppu) (mem : Memory) (mapBase xx yy : Nat) : BitVec 2 :=
  let t := mem.read (mapBase + (yy / 8) * 32 + xx / 8)
  let row := p.tileAddr t + 2 * (yy % 8)
  planeIndex (mem.read row) (mem.read (row + 1)) (xx % 8)

/-- R464: the background's colour index at column x of the current line. -/
def Ppu.bgPixel (p : Ppu) (mem : Memory) (x : Nat) : BitVec 2 :=
  if p.lcdc.getLsbD 0 then
    p.mapPixel mem (if p.lcdc.getLsbD 3 then 0x9C00 else 0x9800) ((x + p.scx.toNat) % 256) ((p.line + p.scy.toNat) % 256)
  else 0

/-- R469: the window covers column x of the current line; `x ≥ WX − 7` is a signed comparison. -/
def Ppu.windowCovers (p : Ppu) (x : Nat) : Bool :=
  p.lcdc.getLsbD 5 && p.wy.toNat ≤ p.line && p.wx.toNat ≤ x + 7

/-- R464, R469: the background or window colour index at column x of the current line. -/
def Ppu.layerPixel (p : Ppu) (mem : Memory) (x : Nat) : BitVec 2 :=
  if p.windowCovers x then
    p.mapPixel mem (if p.lcdc.getLsbD 6 then 0x9C00 else 0x9800) (x + 7 - p.wx.toNat) (p.line - p.wy.toNat)
  else p.bgPixel mem x

/-! ### Sprites -/

/-- One OAM entry (R462). -/
structure OamEntry where
  y    : Byte
  x    : Byte
  tile : Byte
  attr : Byte
deriving DecidableEq, Repr

/-- R462: entry i is the four bytes at 0xFE00 + 4i. -/
def oamEntry (mem : Memory) (i : Nat) : OamEntry where
  y    := mem.read (0xFE00 + 4 * i)
  x    := mem.read (0xFE00 + 4 * i + 1)
  tile := mem.read (0xFE00 + 4 * i + 2)
  attr := mem.read (0xFE00 + 4 * i + 3)

/-- R463: the sprite height, by LCDC bit 2. -/
def Ppu.spriteHeight (p : Ppu) : Nat := if p.lcdc.getLsbD 2 then 16 else 8

/-- R463: entry i intersects the current line: `line ∈ [Y − 16, Y − 16 + h)`. -/
def Ppu.spriteOnLine (p : Ppu) (mem : Memory) (i : Nat) : Bool :=
  let y := (oamEntry mem i).y.toNat
  y ≤ p.line + 16 && p.line + 16 < y + p.spriteHeight

/-- R463: the OAM scan keeps the first 10 entries, in ascending index, that intersect the line. -/
def Ppu.scanOam (p : Ppu) (mem : Memory) : List Nat :=
  ((List.range 40).filter fun i => p.spriteOnLine mem i).take 10

/-- An index put after the entries whose X is not above its own. -/
def insertByX (mem : Memory) (i : Nat) : List Nat → List Nat
  | [] => [i]
  | j :: rest =>
    if (oamEntry mem i).x.toNat < (oamEntry mem j).x.toNat then i :: j :: rest else j :: insertByX mem i rest

/-- R470: ascending X, OAM index as the tiebreak (the list given is in ascending index). -/
def sortByX (mem : Memory) (sprites : List Nat) : List Nat := sprites.foldl (fun acc i => insertByX mem i acc) []

/-- A tile-data byte at an address the sprite formula gives; outside VRAM the value is free (log entry 7). -/
def vramByte (mem : Memory) (a : Int) : Byte :=
  if 0x8000 ≤ a ∧ a < 0xA000 then mem.read a.toNat else Config.offVramByte a

/-- R470: entry `o` covers column x: `X − 8 ≤ x < X`. -/
def OamEntry.covers (o : OamEntry) (x : Nat) : Bool := o.x.toNat ≤ x + 8 && x < o.x.toNat

/-- R470: the colour index of entry `o` at column x of the current line. -/
def Ppu.spriteIndex (p : Ppu) (mem : Memory) (o : OamEntry) (x : Nat) : BitVec 2 :=
  let h := p.spriteHeight
  let col := x + 8 - o.x.toNat
  let col := if o.attr.getLsbD 5 then 7 - col else col
  let row : Int := (p.line : Int) - ((o.y.toNat : Int) - 16)
  let row : Int := if o.attr.getLsbD 6 then (h : Int) - 1 - row else row
  let t := if h = 16 then o.tile &&& 0xFE else o.tile
  let addr : Int := 0x8000 + 16 * (t.toNat : Int) + 2 * row
  planeIndex (vramByte mem addr) (vramByte mem (addr + 1)) col

/-- R470: the first sprite, in drawing order, with an opaque pixel at column x, and that pixel's colour index. -/
def Ppu.spriteAt (p : Ppu) (mem : Memory) (x : Nat) : List Nat → Option (OamEntry × BitVec 2)
  | [] => none
  | i :: rest =>
    let o := oamEntry mem i
    if o.covers x && p.spriteIndex mem o x != 0 then some (o, p.spriteIndex mem o x) else p.spriteAt mem x rest

/-! ### Palettes and the line -/

/-- R471: the shade a palette register gives colour index c: `(pal >> 2c) & 3`. -/
def shadeOf (palette : Byte) (c : BitVec 2) : BitVec 2 := palette.extractLsb' (2 * c.toNat) 2

/-- R471: the RGBA value of a shade. -/
def rgbaOf (sh : Shades) (shade : BitVec 2) : Rgba :=
  match shade.toNat with
  | 0 => sh.s0
  | 1 => sh.s1
  | 2 => sh.s2
  | _ => sh.s3

/-- R470, R471: the shade shown at column x of the current line, given the layer's colour index there. -/
def Ppu.pixelShade (p : Ppu) (mem : Memory) (order : List Nat) (bg : BitVec 2) (x : Nat) : BitVec 2 :=
  let layer := shadeOf p.bgp bg
  if p.lcdc.getLsbD 1 then
    match p.spriteAt mem x order with
    | none => layer
    | some (o, c) =>
      if o.attr.getLsbD 7 && bg != 0 then layer
      else shadeOf (if o.attr.getLsbD 4 then p.obp1 else p.obp0) c
  else layer

/-- R464, R469 to R471: draw the current line into `work`. -/
def Ppu.renderLine (p : Ppu) (shades : Shades) (mem : Memory) : Ppu :=
  let order := sortByX mem p.sprites
  let bgIndex := (List.range 160).map fun x => p.layerPixel mem x
  let row := (List.range 160).map fun x => rgbaOf shades (p.pixelShade mem order (bgIndex.getD x 0) x)
  { p with bgIndex, work := p.work.set p.line row }

/-! ### The mode sequence -/

/-- R468: entering line 144 requests V-Blank, publishes the frame and sets `frameComplete`. -/
def State.enterVblank (s : State) : State :=
  { s.request .vblank with ppu := { s.ppu with output := s.ppu.work, frameComplete := true } }

/-- R461: the one transition whose duration has elapsed, if any; the excess cycles are carried. -/
def State.ppuTransition (s : State) : Option State :=
  let p := s.ppu
  match p.mode with
  | .oamScan =>
    if 80 ≤ p.modeCycles then
      some { s with ppu := { p with modeCycles := p.modeCycles - 80, sprites := p.scanOam s.mem, mode := .drawing } }
    else none
  | .drawing =>
    if 172 ≤ p.modeCycles then
      some { s with ppu := { p.renderLine s.config.shades s.mem with modeCycles := p.modeCycles - 172, mode := .hblank } }
    else none
  | .hblank =>
    if 204 ≤ p.modeCycles then
      let next := { p with modeCycles := p.modeCycles - 204, line := p.line + 1 }
      if p.line + 1 = 144 then some (State.enterVblank { s with ppu := { next with mode := .vblank } })
      else some { s with ppu := { next with mode := .oamScan } }
    else none
  | .vblank =>
    if 456 ≤ p.modeCycles then
      let next := { p with modeCycles := p.modeCycles - 456, line := p.line + 1 }
      if p.line + 1 = 154 then some { s with ppu := { next with line := 0, mode := .oamScan } }
      else some { s with ppu := next }
    else none

/-- R461's loop: every transition that has elapsed, the STAT line evaluated after each. Every transition takes at least
80 cycles off `modeCycles`, so `modeCycles / 80` turns are enough. -/
def State.ppuLoop : Nat → State → State
  | 0, s => s
  | n + 1, s =>
    match s.ppuTransition with
    | none => s
    | some t => State.ppuLoop n t.evalStat

/-- R461: `ppu.advance(N)`; with the LCD off it does nothing. -/
def State.ppuAdvance (n : Nat) (s : State) : State :=
  if s.ppu.lcdOn then
    let s := { s with ppu := { s.ppu with modeCycles := s.ppu.modeCycles + n } }
    State.ppuLoop (s.ppu.modeCycles / 80) s
  else s

/-! ### Register writes -/

/-- R465: a write to STAT stores bits 6..3; the STAT line is evaluated. -/
def State.writeStat (s : State) (v : Byte) : State :=
  State.evalStat { s with ppu := { s.ppu with statEnable := v.extractLsb' 3 4 } }

/-- R465: a write to LYC; the STAT line is evaluated. -/
def State.writeLyc (s : State) (v : Byte) : State := State.evalStat { s with ppu := { s.ppu with lyc := v } }

/-- R466: any write to LY restarts the frame; the STAT line is evaluated. -/
def State.writeLy (s : State) : State :=
  State.evalStat
    { s with ppu := { s.ppu with line := 0, modeCycles := 0, mode := if s.ppu.lcdOn then .oamScan else s.ppu.mode } }

/-- R467: a write to LCDC; bit 7 falling switches the LCD off, rising switches it on. -/
def State.writeLcdc (s : State) (v : Byte) : State :=
  let was := s.ppu.lcdOn
  let now := v.getLsbD 7
  let p := { s.ppu with lcdc := v }
  if was && !now then
    let blank := blankFrame s.config.shades.s0
    { s with ppu := { p with mode := .hblank, line := 0, modeCycles := 0, statLine := false, work := blank, output := blank } }
  else if !was && now then State.evalStat { s with ppu := { p with mode := .oamScan, line := 0, modeCycles := 0 } }
  else State.evalStat { s with ppu := p }

/-- R76: a CPU write to VRAM or OAM is ignored while the LCD is on and the PPU is in mode 2 or 3, when
`ENFORCE_VRAM_LOCK` holds. -/
def State.vramLocked (s : State) : Bool :=
  s.config.enforceVramLock && s.ppu.lcdOn && (s.ppu.mode == .oamScan || s.ppu.mode == .drawing)

end Sys2Proof.Machine
end

