-- ==== Sys2Proof/Machine/Bus.lean ====
section
/-! DEFINITION. The bus: the address map, the I/O registers, one byte read and one byte write (R70 to R95, R44 to R48). -/

namespace Sys2Proof.Machine

/-! ### The address map (R72) -/

/-- The owner of an address (R72). -/
inductive Region where
  | rom
  | vram
  | extRam
  | wram
  | echo
  | oam
  | unusable
  | io
  | hram
  | ie
deriving DecidableEq, Repr

/-- R72: the region of an address. The two ROM regions are one owner; the controller tells them apart (R73). -/
def regionOf (a : Word) : Region :=
  let n := a.toNat
  if n < 0x8000 then .rom
  else if n < 0xA000 then .vram
  else if n < 0xC000 then .extRam
  else if n < 0xE000 then .wram
  else if n < 0xFE00 then .echo
  else if n < 0xFEA0 then .oam
  else if n < 0xFF00 then .unusable
  else if n < 0xFF80 then .io
  else if n < 0xFFFF then .hram
  else .ie

/-- The I/O registers of R47; `unused` is every other address of 0xFF00..0xFF7F (R48). -/
inductive IoReg where
  | p1 | sb | sc | div | tima | tma | tac | ifl
  | sound (k : SoundReg)
  | nr52
  | waveRam
  | lcdc | stat | scy | scx | ly | lyc | dma | bgp | obp0 | obp1 | wy | wx
  | boot
  | unused
deriving DecidableEq, Repr

/-- R47, R48: the register at 0xFF00 + n. -/
def ioRegAt (n : Nat) : IoReg :=
  match n with
  | 0x00 => .p1
  | 0x01 => .sb
  | 0x02 => .sc
  | 0x04 => .div
  | 0x05 => .tima
  | 0x06 => .tma
  | 0x07 => .tac
  | 0x0F => .ifl
  | 0x10 => .sound .nr10
  | 0x11 => .sound .nr11
  | 0x12 => .sound .nr12
  | 0x13 => .sound .nr13
  | 0x14 => .sound .nr14
  | 0x16 => .sound .nr21
  | 0x17 => .sound .nr22
  | 0x18 => .sound .nr23
  | 0x19 => .sound .nr24
  | 0x1A => .sound .nr30
  | 0x1B => .sound .nr31
  | 0x1C => .sound .nr32
  | 0x1D => .sound .nr33
  | 0x1E => .sound .nr34
  | 0x20 => .sound .nr41
  | 0x21 => .sound .nr42
  | 0x22 => .sound .nr43
  | 0x23 => .sound .nr44
  | 0x24 => .sound .nr50
  | 0x25 => .sound .nr51
  | 0x26 => .nr52
  | 0x40 => .lcdc
  | 0x41 => .stat
  | 0x42 => .scy
  | 0x43 => .scx
  | 0x44 => .ly
  | 0x45 => .lyc
  | 0x46 => .dma
  | 0x47 => .bgp
  | 0x48 => .obp0
  | 0x49 => .obp1
  | 0x4A => .wy
  | 0x4B => .wx
  | 0x50 => .boot
  | _ => if 0x30 ≤ n ∧ n < 0x40 then .waveRam else .unused

/-- The I/O register at an address of 0xFF00..0xFF7F. -/
def ioReg (a : Word) : IoReg := ioRegAt (a.toNat % 0x100)

/-! ### Reads -/

/-- R44: a read of IE gives `0xE0 | IE[4:0]`. -/
def Irq.ieByte (q : Irq) : Byte := 0b111#3 ++ q.ie

/-- R45: a read of IF gives `0xE0 | IF[4:0]`. -/
def Irq.ifByte (q : Irq) : Byte := 0b111#3 ++ q.iflag

/-- R47: a read of SC gives `stored | 0x7E`. -/
def Serial.scByte (r : Serial) : Byte := BitVec.ofBool r.start ++ 0b111111#6 ++ BitVec.ofBool r.clock

/-- R81, R47, R48: what a read of an I/O register gives; `a` is its address (the wave RAM's byte). -/
def State.readIo (s : State) (r : IoReg) (a : Word) : Byte :=
  match r with
  | .p1 => s.joypad.p1
  | .sb => s.serial.sb
  | .sc => s.serial.scByte
  | .div => s.timer.div
  | .tima => s.timer.tima
  | .tma => s.timer.tma
  | .tac => 0b11111#5 ++ s.timer.tac
  | .ifl => s.irq.ifByte
  | .sound k => s.apu.regs.read k
  | .nr52 => s.apu.nr52
  | .waveRam => s.mem.read a.toNat
  | .lcdc => s.ppu.lcdc
  | .stat => s.ppu.statByte
  | .scy => s.ppu.scy
  | .scx => s.ppu.scx
  | .ly => BitVec.ofNat 8 s.ppu.line
  | .lyc => s.ppu.lyc
  | .dma => s.dma
  | .bgp => s.ppu.bgp
  | .obp0 => s.ppu.obp0
  | .obp1 => s.ppu.obp1
  | .wy => s.ppu.wy
  | .wx => s.ppu.wx
  | .boot => 0xFF
  | .unused => 0xFF

/-- `MemRead(a, 1)`: one bus read (R13, R71, R72). It is a function of the state and changes nothing (R87).
With no cartridge the cartridge's regions read 0xFF (log entry 22). -/
def State.read (s : State) (a : Word) : Byte :=
  match regionOf a with
  | .rom => match s.cart with
    | some k => k.readRom a.toNat
    | none => 0xFF
  | .vram => s.mem.read a.toNat
  | .extRam => match s.cart with
    | some k => k.readRam a.toNat
    | none => 0xFF
  | .wram => s.mem.read a.toNat
  | .echo => s.mem.read (a.toNat - 0x2000)
  | .oam => s.mem.read a.toNat
  | .unusable => 0xFF
  | .io => s.readIo (ioReg a) a
  | .hram => s.mem.read a.toNat
  | .ie => s.irq.ieByte

/-! ### Writes -/

/-- Store a byte of the internal memories, by CPU address. -/
def State.store (s : State) (a : Nat) (v : Byte) : State := { s with mem := s.mem.write a v }

/-- R92: the last `k` of the 160 byte copies, in order: `oam[i] <- MemRead((V << 8) + i)`, not subject to the lock. -/
def State.oamDma (s : State) (v : Byte) : Nat → State
  | 0 => s
  | k + 1 => State.oamDma (s.store (0xFE00 + (159 - k)) (s.read (wordOf v (BitVec.ofNat 8 (159 - k))))) v k

/-- R92: a write to 0xFF46 stores V, then copies 160 bytes from V << 8 into OAM, within the write. -/
def State.writeDma (s : State) (v : Byte) : State := State.oamDma { s with dma := v } v 160

/-- R81, R88: a write to an I/O register, with its side effects; `a` is its address (the wave RAM's byte). -/
def State.writeIo (s : State) (r : IoReg) (a : Word) (v : Byte) : State :=
  match r with
  | .p1 => { s with joypad := s.joypad.writeP1 v }
  | .sb => { s with serial := { s.serial with sb := v } }
  | .sc => { s with serial := { s.serial with start := v.getLsbD 7, clock := v.getLsbD 0 } }
  | .div => { s with timer := s.timer.writeDiv }
  | .tima => { s with timer := { s.timer with tima := v } }
  | .tma => { s with timer := { s.timer with tma := v } }
  | .tac => { s with timer := s.timer.writeTac v }
  | .ifl => { s with irq := { s.irq with iflag := v.setWidth 5 } }
  | .sound k => { s with apu := Apu.writeSound s.config.noiseScale s.apu k v }
  | .nr52 => { s with apu := s.apu.writeNr52 v }
  | .waveRam => s.store a.toNat v
  | .lcdc => s.writeLcdc v
  | .stat => s.writeStat v
  | .scy => { s with ppu := { s.ppu with scy := v } }
  | .scx => { s with ppu := { s.ppu with scx := v } }
  | .ly => s.writeLy
  | .lyc => s.writeLyc v
  | .dma => s.writeDma v
  | .bgp => { s with ppu := { s.ppu with bgp := v } }
  | .obp0 => { s with ppu := { s.ppu with obp0 := v } }
  | .obp1 => { s with ppu := { s.ppu with obp1 := v } }
  | .wy => { s with ppu := { s.ppu with wy := v } }
  | .wx => { s with ppu := { s.ppu with wx := v } }
  | .boot => s
  | .unused => s

/-- `MemWrite(a, 1, v)`: one bus write, routed to the address's owner (R13, R71, R72). -/
def State.write (s : State) (a : Word) (v : Byte) : State :=
  match regionOf a with
  | .rom => { s with cart := s.cart.map fun k => k.control a.toNat v }
  | .vram => if s.vramLocked then s else s.store a.toNat v
  | .extRam => { s with cart := s.cart.map fun k => k.writeRam a.toNat v }
  | .wram => s.store a.toNat v
  | .echo => s.store (a.toNat - 0x2000) v
  | .oam => if s.vramLocked then s else s.store a.toNat v
  | .unusable => s
  | .io => s.writeIo (ioReg a) a v
  | .hram => s.store a.toNat v
  | .ie => { s with irq := { s.irq with ie := v.setWidth 5 } }

end Sys2Proof.Machine
end

