-- ==== Sys2Proof/Machine/Flags.lean ====
section
/-! DEFINITION. F as a byte, and every result and flag computation of the instruction rules.

Arithmetic is done on natural numbers and narrowed at the end, so carries are comparisons (R11, R241). -/

namespace Sys2Proof.Machine

/-! ### F (R33, R34) -/

/-- F as a byte: Z, N, H, C in bits 7..4, bits 3..0 zero (R33, R34). -/
def Flags.toByte (f : Flags) : Byte :=
  BitVec.ofBool f.z ++ BitVec.ofBool f.n ++ BitVec.ofBool f.h ++ BitVec.ofBool f.c ++ 0#4

/-- A write of F stores `v & 0xF0` (R33). -/
def Flags.ofByte (v : Byte) : Flags where
  z := v.getLsbD 7
  n := v.getLsbD 6
  h := v.getLsbD 5
  c := v.getLsbD 4

/-- A carry flag as a number. -/
def carryNat (c : Bool) : Nat := if c then 1 else 0

/-! ### 8-bit arithmetic and logic (R242 to R265): the result and the flags -/

/-- ADD and ADC: `A + n + c` with H the carry out of bit 3 and C out of bit 7 (R242, R245; c = 0 for ADD). -/
def add8 (a n : Byte) (c : Bool) : Byte × Flags :=
  let sum := a.toNat + n.toNat + carryNat c
  let r := BitVec.ofNat 8 sum
  (r, { z := r == 0, n := false, h := 15 < a.toNat % 16 + n.toNat % 16 + carryNat c, c := 255 < sum })

/-- SUB, SBC and CP: `A − n − c` with H and C the borrows (R248, R251; c = 0 for SUB and CP). -/
def sub8 (a n : Byte) (c : Bool) : Byte × Flags :=
  let r := a - n - bitByte c
  (r, { z := r == 0, n := true, h := a.toNat % 16 < n.toNat % 16 + carryNat c, c := a.toNat < n.toNat + carryNat c })

/-- AND (R254). -/
def and8 (a n : Byte) : Byte × Flags :=
  (a &&& n, { z := a &&& n == 0, n := false, h := true, c := false })

/-- XOR (R257). -/
def xor8 (a n : Byte) : Byte × Flags :=
  (a ^^^ n, { z := a ^^^ n == 0, n := false, h := false, c := false })

/-- OR (R260). -/
def or8 (a n : Byte) : Byte × Flags :=
  (a ||| n, { z := a ||| n == 0, n := false, h := false, c := false })

/-- INC: C is kept (R266). -/
def inc8 (old : Byte) (f : Flags) : Byte × Flags :=
  (old + 1, { z := old + 1 == 0, n := false, h := old.toNat % 16 == 15, c := f.c })

/-- DEC: C is kept (R268). -/
def dec8 (old : Byte) (f : Flags) : Byte × Flags :=
  (old - 1, { z := old - 1 == 0, n := true, h := old.toNat % 16 == 0, c := f.c })

/-- The eight operations of the field `alu` (R158). -/
inductive AluOp where
  | add | adc | sub | sbc | and | xor | or | cp
deriving DecidableEq, Repr

/-- The value written to A and the flags; CP discards the result, so A keeps its value (R240, R263). -/
def AluOp.apply (op : AluOp) (a n : Byte) (f : Flags) : Byte × Flags :=
  match op with
  | .add => add8 a n false
  | .adc => add8 a n f.c
  | .sub => sub8 a n false
  | .sbc => sub8 a n f.c
  | .and => and8 a n
  | .xor => xor8 a n
  | .or => or8 a n
  | .cp => (a, (sub8 a n false).2)

/-! ### 16-bit arithmetic -/

/-- ADD HL,rr: H out of bit 11, C out of bit 15, Z kept (R270). -/
def addHl (hl rr : Word) (f : Flags) : Word × Flags :=
  (hl + rr,
    { z := f.z, n := false, h := 0xFFF < hl.toNat % 0x1000 + rr.toNat % 0x1000, c := 0xFFFF < hl.toNat + rr.toNat })

/-- SP plus a signed offset: the flags come from the unsigned sum of the low bytes (R220, R273). -/
def addSpOffset (sp : Word) (u : Byte) : Word × Flags :=
  (sp + sext8 u,
    { z := false, n := false, h := 15 < sp.toNat % 16 + u.toNat % 16, c := 255 < sp.toNat % 256 + u.toNat })

/-! ### Rotates and shifts (R280 to R299): the result and the bit shifted out -/

/-- RLC (R284). -/
def rlc8 (v : Byte) (_cin : Bool) : Byte × Bool := ((v <<< 1) ||| bitByte (v.getLsbD 7), v.getLsbD 7)

/-- RRC (R286). -/
def rrc8 (v : Byte) (_cin : Bool) : Byte × Bool := ((v >>> 1) ||| (bitByte (v.getLsbD 0) <<< 7), v.getLsbD 0)

/-- RL (R288). -/
def rl8 (v : Byte) (cin : Bool) : Byte × Bool := ((v <<< 1) ||| bitByte cin, v.getLsbD 7)

/-- RR (R290). -/
def rr8 (v : Byte) (cin : Bool) : Byte × Bool := ((v >>> 1) ||| (bitByte cin <<< 7), v.getLsbD 0)

/-- SLA (R292). -/
def sla8 (v : Byte) (_cin : Bool) : Byte × Bool := (v <<< 1, v.getLsbD 7)

/-- SRA (R294). -/
def sra8 (v : Byte) (_cin : Bool) : Byte × Bool := ((v >>> 1) ||| (v &&& 0x80), v.getLsbD 0)

/-- SWAP; C is cleared (R296). -/
def swap8 (v : Byte) (_cin : Bool) : Byte × Bool := (((v &&& 0x0F) <<< 4) ||| (v >>> 4), false)

/-- SRL (R298). -/
def srl8 (v : Byte) (_cin : Bool) : Byte × Bool := (v >>> 1, v.getLsbD 0)

/-- The eight operations of CB rows 0x00..0x3F, by field y (R159). -/
inductive RotOp where
  | rlc | rrc | rl | rr | sla | sra | swap | srl
deriving DecidableEq, Repr

/-- The operation's result and shifted-out bit. -/
def RotOp.apply : RotOp → Byte → Bool → Byte × Bool
  | .rlc => rlc8
  | .rrc => rrc8
  | .rl => rl8
  | .rr => rr8
  | .sla => sla8
  | .sra => sra8
  | .swap => swap8
  | .srl => srl8

/-- CB rotates and shifts: Z per result, N = H = 0, C the bit shifted out (R284 to R299). -/
def RotOp.result (op : RotOp) (v : Byte) (f : Flags) : Byte × Flags :=
  let (w, out) := op.apply v f.c
  (w, { z := w == 0, n := false, h := false, c := out })

/-- The accumulator short forms always clear Z (R280 to R283). -/
def RotOp.resultA (op : RotOp) (a : Byte) (f : Flags) : Byte × Flags :=
  let (w, out) := op.apply a f.c
  (w, { z := false, n := false, h := false, c := out })

/-! ### Bits (R300 to R305) -/

/-- BIT: Z = 1 − t, N = 0, H = 1, C kept (R300). -/
def bitFlags (v : Byte) (b : Nat) (f : Flags) : Flags :=
  { z := !v.getLsbD b, n := false, h := true, c := f.c }

/-- RES: `v & ~(1 << b)` (R302). -/
def resBit (v : Byte) (b : Nat) : Byte := v &&& ~~~(1#8 <<< b)

/-- SET: `v | (1 << b)` (R304). -/
def setBit (v : Byte) (b : Nat) : Byte := v ||| (1#8 <<< b)

/-! ### DAA and the flag instructions (R345 to R348) -/

/-- R345: DAA's high-digit condition after an addition. -/
def daaHigh (a : Byte) (f : Flags) : Bool := f.c || 0x99 < a.toNat

/-- R345: DAA's low-digit condition after an addition. -/
def daaLow (a : Byte) (f : Flags) : Bool := f.h || 0x09 < a.toNat % 16

/-- R345: `corr`, from the two conditions. -/
def daaCorrection (high low : Bool) : Byte := (if high then 0x60 else 0x00) ||| (if low then 0x06 else 0x00)

/-- DAA (R345), with the parameter `DAA_SUB_BORROW_SETS_C`. -/
def daa8 (borrowSetsC : Bool) (a : Byte) (f : Flags) : Byte × Flags :=
  if f.n then
    let corr := daaCorrection f.c f.h
    let w := a - corr
    (w, { z := w == 0, n := f.n, h := false, c := f.c || (borrowSetsC && a.toNat < corr.toNat) })
  else
    let corr := daaCorrection (daaHigh a f) (daaLow a f)
    let w := a + corr
    (w, { z := w == 0, n := f.n, h := false, c := daaHigh a f })

/-- CPL: Z and C kept, N = H = 1 (R346). -/
def cplFlags (f : Flags) : Flags := { z := f.z, n := true, h := true, c := f.c }

/-- SCF: Z kept, N = H = 0, C = 1 (R347). -/
def scfFlags (f : Flags) : Flags := { z := f.z, n := false, h := false, c := true }

/-- CCF: Z kept, N = H = 0, C complemented (R348). -/
def ccfFlags (f : Flags) : Flags := { z := f.z, n := false, h := false, c := !f.c }

end Sys2Proof.Machine
end

