-- ==== Sys2Proof/Machine/Operands.lean ====
section
/-! DEFINITION. Operands: the 8-bit registers, the pairs, the conditions (R12, R31, R154 to R157, R310). -/

namespace Sys2Proof.Machine

/-- The 8-bit register operands; value 6 of the field, (HL), is a form of its own (R154). -/
inductive Reg8 where
  | b | c | d | e | h | l | a
deriving DecidableEq, Repr

/-- The 16-bit operands of field `rp` (R155). -/
inductive Reg16 where
  | bc | de | hl | sp
deriving DecidableEq, Repr

/-- The 16-bit operands of field `rp2` (R156). -/
inductive StackReg where
  | bc | de | hl | af
deriving DecidableEq, Repr

/-- The conditions (R157). -/
inductive Cond where
  | nz | z | nc | c
deriving DecidableEq, Repr

/-- `x[R]` (R12). -/
def Regs.get8 (r : Regs) : Reg8 → Byte
  | .b => r.b
  | .c => r.c
  | .d => r.d
  | .e => r.e
  | .h => r.h
  | .l => r.l
  | .a => r.a

/-- `x[R] <- v` (R12). -/
def Regs.set8 (r : Regs) (k : Reg8) (v : Byte) : Regs :=
  match k with
  | .b => { r with b := v }
  | .c => { r with c := v }
  | .d => { r with d := v }
  | .e => { r with e := v }
  | .h => { r with h := v }
  | .l => { r with l := v }
  | .a => { r with a := v }

/-- The pair BC (R31). -/
def Regs.bc (r : Regs) : Word := wordOf r.b r.c

/-- The pair DE (R31). -/
def Regs.de (r : Regs) : Word := wordOf r.d r.e

/-- The pair HL (R31). -/
def Regs.hl (r : Regs) : Word := wordOf r.h r.l

/-- The pair AF (R31, R33). -/
def Regs.af (r : Regs) : Word := wordOf r.a r.f.toByte

/-- `x[HL] <- v` (R12). -/
def Regs.setHl (r : Regs) (v : Word) : Regs := { r with h := hiByte v, l := loByte v }

/-- A 16-bit operand of field `rp`, SP among them (R12, R155). -/
def Regs.get16 (r : Regs) : Reg16 → Word
  | .bc => r.bc
  | .de => r.de
  | .hl => r.hl
  | .sp => r.sp

/-- A write to a 16-bit operand of field `rp`: `v[15:8]` to the first register, `v[7:0]` to the second (R12, R155). -/
def Regs.set16 (r : Regs) (k : Reg16) (v : Word) : Regs :=
  match k with
  | .bc => { r with b := hiByte v, c := loByte v }
  | .de => { r with d := hiByte v, e := loByte v }
  | .hl => r.setHl v
  | .sp => { r with sp := v }

/-- A 16-bit operand of field `rp2` (R156). -/
def Regs.getStack (r : Regs) : StackReg → Word
  | .bc => r.bc
  | .de => r.de
  | .hl => r.hl
  | .af => r.af

/-- A write to a 16-bit operand of field `rp2`; AF keeps bits 3..0 of F zero (R12, R33, R323). -/
def Regs.setStack (r : Regs) (k : StackReg) (v : Word) : Regs :=
  match k with
  | .bc => { r with b := hiByte v, c := loByte v }
  | .de => { r with d := hiByte v, e := loByte v }
  | .hl => r.setHl v
  | .af => { r with a := hiByte v, f := Flags.ofByte (loByte v) }

/-- `cond(cc)` (R310). -/
def Cond.holds (cc : Cond) (f : Flags) : Bool :=
  match cc with
  | .nz => !f.z
  | .z => f.z
  | .nc => !f.c
  | .c => f.c

end Sys2Proof.Machine
end

