-- ==== Sys2Proof/Machine/Ops.lean ====
section
/-! DEFINITION. The operations the meanings share: passing the instruction's bytes, register writes, cycles, the stack,
taking an interrupt and the IllegalOpcode fault (R14, R36, R152, R330, R331, R400, R412, R430).

A meaning starts in the state at the start of the instruction: PC at the opcode, `haltBug` as the last step left it. Its
operands were read from the bytes after the opcode (log entry 2). -/

namespace Sys2Proof.Machine

/-! ### Registers and cycles -/

/-- Write PC. -/
def State.setPc (s : State) (v : Word) : State := { s with regs := { s.regs with pc := v } }

/-- Write SP. -/
def State.setSp (s : State) (v : Word) : State := { s with regs := { s.regs with sp := v } }

/-- Write an 8-bit register. -/
def State.setReg8 (s : State) (k : Reg8) (v : Byte) : State := { s with regs := s.regs.set8 k v }

/-- Write a 16-bit operand of field `rp`. -/
def State.setReg16 (s : State) (k : Reg16) (v : Word) : State := { s with regs := s.regs.set16 k v }

/-- Write the flags. -/
def State.setFlags (s : State) (f : Flags) : State := { s with regs := { s.regs with f := f } }

/-- `cycles <- cycles + n` (R43, R400). -/
def State.tick (s : State) (n : Nat) : State := { s with cpu := { s.cpu with cycles := s.cpu.cycles + n } }

/-- The end of an instruction that costs `n` cycles (R16, R401). -/
def State.done (s : State) (n : Nat) : Result State := .next (s.tick n)

/-- An instruction of `n` bytes has been fetched: PC is past it, and `halt_bug` is spent. Under the HALT bug the opcode
fetch did not advance PC, so it stands one byte lower (R14, R36, R152). -/
def State.fetched (s : State) (n : Nat) : State :=
  { s with
    regs := { s.regs with pc := s.regs.pc + BitVec.ofNat 16 (if s.cpu.haltBug then n - 1 else n) }
    cpu := { s.cpu with haltBug := false } }

/-! ### The stack -/

/-- `Push16(v)`: SP down by one and the high byte written there, then again the low byte (R330). -/
def State.push16 (s : State) (v : Word) : State :=
  let s := s.setSp (s.regs.sp - 1)
  let s := s.write s.regs.sp (hiByte v)
  let s := s.setSp (s.regs.sp - 1)
  s.write s.regs.sp (loByte v)

/-- The value `Pop16()` returns: the low byte at SP, the high byte at SP + 1 (R331). -/
def State.stackTop (s : State) : Word := wordOf (s.read (s.regs.sp + 1)) (s.read s.regs.sp)

/-- `Pop16()`'s effect on SP (R331). -/
def State.popped (s : State) : State := s.setSp (s.regs.sp + 2)

/-! ### Exceptions -/

/-- Taking interrupt `k`: IME, `ei_delay`, `halted` and IF[k] cleared, PC pushed, PC at the vector, 20 cycles. The vector
is chosen before the push (R400, R412, R416). -/
def State.takeInterrupt (s : State) (k : IrqSource) : State :=
  let s := { s with cpu := { s.cpu with ime := false, eiDelay := 0, halted := false }, irq := s.irq.acknowledge k }
  let s := s.push16 s.regs.pc
  (s.setPc k.vector).tick 20

/-- The return from an interrupt: PC from the stack, IME set at once, `ei_delay` cleared (R320). -/
def State.returnFromInterrupt (s : State) : State :=
  let s := s.popped.setPc s.stackTop
  { s with cpu := { s.cpu with ime := true, eiDelay := 0 } }

/-- `raise IllegalOpcode(op, addr)`: `fault` records the opcode and the address it was fetched from, PC stays there, no
cycles. The opcode fetch has spent `halt_bug` (R350, R400, R430; log entry 15). -/
def State.raiseIllegal (s : State) (op : Byte) : State :=
  { s with cpu := { s.cpu with fault := some { opcode := op, addr := s.regs.pc }, haltBug := false } }

/-- The end of a step that executed an instruction: `ei_delay` counts down, and IME is set when it reaches 0 (R344, R400). -/
def State.countEiDelay (s : State) : State :=
  match s.cpu.eiDelay with
  | 0 => s
  | 1 => { s with cpu := { s.cpu with eiDelay := 0, ime := true } }
  | 2 => { s with cpu := { s.cpu with eiDelay := 1 } }

end Sys2Proof.Machine
end

