-- ==== Sys2Proof/Machine/Arith.lean ====
section
/-! DEFINITION. 8-bit arithmetic and logic (R240 to R265): the three forms, then one meaning for each opcode. -/

namespace Sys2Proof.Machine

/-- Write A and the flags with the operation's result on operand `n` (R240). -/
def State.alu (s : State) (op : AluOp) (n : Byte) : State :=
  let (v, f) := op.apply s.regs.a n s.regs.f
  (s.setReg8 .a v).setFlags f

/-- The register form (R240). -/
def aluReg (op : AluOp) (src : Reg8) (s : State) : Result State :=
  let s := s.fetched 1
  (s.alu op (s.regs.get8 src)).done 4

/-- The memory form, operand the byte at HL (R240). -/
def aluMem (op : AluOp) (s : State) : Result State :=
  let s := s.fetched 1
  (s.alu op (s.read s.regs.hl)).done 8

/-- The immediate form (R240). -/
def aluImm (op : AluOp) (n : Byte) (s : State) : Result State :=
  ((s.fetched 2).alu op n).done 8

/-- ADD A,B (R242). -/
def execAddAB (s : State) : Result State := aluReg .add .b s

/-- ADD A,C (R242). -/
def execAddAC (s : State) : Result State := aluReg .add .c s

/-- ADD A,D (R242). -/
def execAddAD (s : State) : Result State := aluReg .add .d s

/-- ADD A,E (R242). -/
def execAddAE (s : State) : Result State := aluReg .add .e s

/-- ADD A,H (R242). -/
def execAddAH (s : State) : Result State := aluReg .add .h s

/-- ADD A,L (R242). -/
def execAddAL (s : State) : Result State := aluReg .add .l s

/-- ADD A,(HL) (R243). -/
def execAddAAtHl (s : State) : Result State := aluMem .add s

/-- ADD A,A (R242). -/
def execAddAA (s : State) : Result State := aluReg .add .a s

/-- ADC A,B (R245). -/
def execAdcAB (s : State) : Result State := aluReg .adc .b s

/-- ADC A,C (R245). -/
def execAdcAC (s : State) : Result State := aluReg .adc .c s

/-- ADC A,D (R245). -/
def execAdcAD (s : State) : Result State := aluReg .adc .d s

/-- ADC A,E (R245). -/
def execAdcAE (s : State) : Result State := aluReg .adc .e s

/-- ADC A,H (R245). -/
def execAdcAH (s : State) : Result State := aluReg .adc .h s

/-- ADC A,L (R245). -/
def execAdcAL (s : State) : Result State := aluReg .adc .l s

/-- ADC A,(HL) (R246). -/
def execAdcAAtHl (s : State) : Result State := aluMem .adc s

/-- ADC A,A (R245). -/
def execAdcAA (s : State) : Result State := aluReg .adc .a s

/-- SUB B (R248). -/
def execSubB (s : State) : Result State := aluReg .sub .b s

/-- SUB C (R248). -/
def execSubC (s : State) : Result State := aluReg .sub .c s

/-- SUB D (R248). -/
def execSubD (s : State) : Result State := aluReg .sub .d s

/-- SUB E (R248). -/
def execSubE (s : State) : Result State := aluReg .sub .e s

/-- SUB H (R248). -/
def execSubH (s : State) : Result State := aluReg .sub .h s

/-- SUB L (R248). -/
def execSubL (s : State) : Result State := aluReg .sub .l s

/-- SUB (HL) (R249). -/
def execSubAtHl (s : State) : Result State := aluMem .sub s

/-- SUB A (R248). -/
def execSubA (s : State) : Result State := aluReg .sub .a s

/-- SBC A,B (R251). -/
def execSbcAB (s : State) : Result State := aluReg .sbc .b s

/-- SBC A,C (R251). -/
def execSbcAC (s : State) : Result State := aluReg .sbc .c s

/-- SBC A,D (R251). -/
def execSbcAD (s : State) : Result State := aluReg .sbc .d s

/-- SBC A,E (R251). -/
def execSbcAE (s : State) : Result State := aluReg .sbc .e s

/-- SBC A,H (R251). -/
def execSbcAH (s : State) : Result State := aluReg .sbc .h s

/-- SBC A,L (R251). -/
def execSbcAL (s : State) : Result State := aluReg .sbc .l s

/-- SBC A,(HL) (R252). -/
def execSbcAAtHl (s : State) : Result State := aluMem .sbc s

/-- SBC A,A (R251). -/
def execSbcAA (s : State) : Result State := aluReg .sbc .a s

/-- AND B (R254). -/
def execAndB (s : State) : Result State := aluReg .and .b s

/-- AND C (R254). -/
def execAndC (s : State) : Result State := aluReg .and .c s

/-- AND D (R254). -/
def execAndD (s : State) : Result State := aluReg .and .d s

/-- AND E (R254). -/
def execAndE (s : State) : Result State := aluReg .and .e s

/-- AND H (R254). -/
def execAndH (s : State) : Result State := aluReg .and .h s

/-- AND L (R254). -/
def execAndL (s : State) : Result State := aluReg .and .l s

/-- AND (HL) (R255). -/
def execAndAtHl (s : State) : Result State := aluMem .and s

/-- AND A (R254). -/
def execAndA (s : State) : Result State := aluReg .and .a s

/-- XOR B (R257). -/
def execXorB (s : State) : Result State := aluReg .xor .b s

/-- XOR C (R257). -/
def execXorC (s : State) : Result State := aluReg .xor .c s

/-- XOR D (R257). -/
def execXorD (s : State) : Result State := aluReg .xor .d s

/-- XOR E (R257). -/
def execXorE (s : State) : Result State := aluReg .xor .e s

/-- XOR H (R257). -/
def execXorH (s : State) : Result State := aluReg .xor .h s

/-- XOR L (R257). -/
def execXorL (s : State) : Result State := aluReg .xor .l s

/-- XOR (HL) (R258). -/
def execXorAtHl (s : State) : Result State := aluMem .xor s

/-- XOR A (R257). -/
def execXorA (s : State) : Result State := aluReg .xor .a s

/-- OR B (R260). -/
def execOrB (s : State) : Result State := aluReg .or .b s

/-- OR C (R260). -/
def execOrC (s : State) : Result State := aluReg .or .c s

/-- OR D (R260). -/
def execOrD (s : State) : Result State := aluReg .or .d s

/-- OR E (R260). -/
def execOrE (s : State) : Result State := aluReg .or .e s

/-- OR H (R260). -/
def execOrH (s : State) : Result State := aluReg .or .h s

/-- OR L (R260). -/
def execOrL (s : State) : Result State := aluReg .or .l s

/-- OR (HL) (R261). -/
def execOrAtHl (s : State) : Result State := aluMem .or s

/-- OR A (R260). -/
def execOrA (s : State) : Result State := aluReg .or .a s

/-- CP B (R263). -/
def execCpB (s : State) : Result State := aluReg .cp .b s

/-- CP C (R263). -/
def execCpC (s : State) : Result State := aluReg .cp .c s

/-- CP D (R263). -/
def execCpD (s : State) : Result State := aluReg .cp .d s

/-- CP E (R263). -/
def execCpE (s : State) : Result State := aluReg .cp .e s

/-- CP H (R263). -/
def execCpH (s : State) : Result State := aluReg .cp .h s

/-- CP L (R263). -/
def execCpL (s : State) : Result State := aluReg .cp .l s

/-- CP (HL) (R264). -/
def execCpAtHl (s : State) : Result State := aluMem .cp s

/-- CP A (R263). -/
def execCpA (s : State) : Result State := aluReg .cp .a s

/-- ADD A,d8 (R244). -/
def execAddAD8 (n : Byte) (s : State) : Result State := aluImm .add n s

/-- ADC A,d8 (R247). -/
def execAdcAD8 (n : Byte) (s : State) : Result State := aluImm .adc n s

/-- SUB d8 (R250). -/
def execSubD8 (n : Byte) (s : State) : Result State := aluImm .sub n s

/-- SBC A,d8 (R253). -/
def execSbcAD8 (n : Byte) (s : State) : Result State := aluImm .sbc n s

/-- AND d8 (R256). -/
def execAndD8 (n : Byte) (s : State) : Result State := aluImm .and n s

/-- XOR d8 (R259). -/
def execXorD8 (n : Byte) (s : State) : Result State := aluImm .xor n s

/-- OR d8 (R262). -/
def execOrD8 (n : Byte) (s : State) : Result State := aluImm .or n s

/-- CP d8 (R265). -/
def execCpD8 (n : Byte) (s : State) : Result State := aluImm .cp n s

end Sys2Proof.Machine
end

