-- ==== Sys2Proof/Machine/Control.lean ====
section
/-! DEFINITION. Jumps, calls, returns, restarts, PUSH and POP (R310 to R323). -/

namespace Sys2Proof.Machine

/-- JP a16 (R311). -/
def jump (nn : Word) (s : State) : Result State := ((s.fetched 3).setPc nn).done 16

/-- JP cc,a16: not taken, PC is past the operands and the cost is the shorter one (R310, R312). -/
def jumpIf (cc : Cond) (nn : Word) (s : State) : Result State :=
  let s := s.fetched 3
  if cc.holds s.regs.f then (s.setPc nn).done 16 else s.done 12

/-- JP HL (R313). -/
def jumpHl (s : State) : Result State :=
  let s := s.fetched 1
  (s.setPc s.regs.hl).done 4

/-- JR e8: relative to the address after the instruction (R314). -/
def jumpRel (e : Byte) (s : State) : Result State :=
  let s := s.fetched 2
  (s.setPc (s.regs.pc + sext8 e)).done 12

/-- JR cc,e8 (R315). -/
def jumpRelIf (cc : Cond) (e : Byte) (s : State) : Result State :=
  let s := s.fetched 2
  if cc.holds s.regs.f then (s.setPc (s.regs.pc + sext8 e)).done 12 else s.done 8

/-- CALL a16: the return address is the one after the instruction (R316). -/
def call (nn : Word) (s : State) : Result State :=
  let s := s.fetched 3
  ((s.push16 s.regs.pc).setPc nn).done 24

/-- CALL cc,a16 (R317). -/
def callIf (cc : Cond) (nn : Word) (s : State) : Result State :=
  let s := s.fetched 3
  if cc.holds s.regs.f then ((s.push16 s.regs.pc).setPc nn).done 24 else s.done 12

/-- RET (R318). -/
def returnTop (s : State) : Result State :=
  let s := s.fetched 1
  (s.popped.setPc s.stackTop).done 16

/-- RET cc (R319). -/
def returnIf (cc : Cond) (s : State) : Result State :=
  let s := s.fetched 1
  if cc.holds s.regs.f then (s.popped.setPc s.stackTop).done 20 else s.done 8

/-- RST t: a call of a fixed address (R321). -/
def restart (target : Word) (s : State) : Result State :=
  let s := s.fetched 1
  ((s.push16 s.regs.pc).setPc target).done 16

/-- PUSH rr (R322). -/
def push (k : StackReg) (s : State) : Result State :=
  let s := s.fetched 1
  (s.push16 (s.regs.getStack k)).done 16

/-- POP rr (R323). -/
def pop (k : StackReg) (s : State) : Result State :=
  let s := s.fetched 1
  let v := s.stackTop
  let s := s.popped
  State.done { s with regs := s.regs.setStack k v } 12

/-- JR e8 (R314). -/
def execJrE8 (e : Byte) (s : State) : Result State := jumpRel e s

/-- JR NZ,e8 (R315). -/
def execJrNzE8 (e : Byte) (s : State) : Result State := jumpRelIf .nz e s

/-- JR Z,e8 (R315). -/
def execJrZE8 (e : Byte) (s : State) : Result State := jumpRelIf .z e s

/-- JR NC,e8 (R315). -/
def execJrNcE8 (e : Byte) (s : State) : Result State := jumpRelIf .nc e s

/-- JR C,e8 (R315). -/
def execJrCE8 (e : Byte) (s : State) : Result State := jumpRelIf .c e s

/-- RET NZ (R319). -/
def execRetNz (s : State) : Result State := returnIf .nz s

/-- POP BC (R323). -/
def execPopBc (s : State) : Result State := pop .bc s

/-- JP NZ,a16 (R312). -/
def execJpNzA16 (nn : Word) (s : State) : Result State := jumpIf .nz nn s

/-- JP a16 (R311). -/
def execJpA16 (nn : Word) (s : State) : Result State := jump nn s

/-- CALL NZ,a16 (R317). -/
def execCallNzA16 (nn : Word) (s : State) : Result State := callIf .nz nn s

/-- PUSH BC (R322). -/
def execPushBc (s : State) : Result State := push .bc s

/-- RST 00H (R321). -/
def execRst00 (s : State) : Result State := restart 0x0000 s

/-- RET Z (R319). -/
def execRetZ (s : State) : Result State := returnIf .z s

/-- RET (R318). -/
def execRet (s : State) : Result State := returnTop s

/-- JP Z,a16 (R312). -/
def execJpZA16 (nn : Word) (s : State) : Result State := jumpIf .z nn s

/-- CALL Z,a16 (R317). -/
def execCallZA16 (nn : Word) (s : State) : Result State := callIf .z nn s

/-- CALL a16 (R316). -/
def execCallA16 (nn : Word) (s : State) : Result State := call nn s

/-- RST 08H (R321). -/
def execRst08 (s : State) : Result State := restart 0x0008 s

/-- RET NC (R319). -/
def execRetNc (s : State) : Result State := returnIf .nc s

/-- POP DE (R323). -/
def execPopDe (s : State) : Result State := pop .de s

/-- JP NC,a16 (R312). -/
def execJpNcA16 (nn : Word) (s : State) : Result State := jumpIf .nc nn s

/-- CALL NC,a16 (R317). -/
def execCallNcA16 (nn : Word) (s : State) : Result State := callIf .nc nn s

/-- PUSH DE (R322). -/
def execPushDe (s : State) : Result State := push .de s

/-- RST 10H (R321). -/
def execRst10 (s : State) : Result State := restart 0x0010 s

/-- RET C (R319). -/
def execRetC (s : State) : Result State := returnIf .c s

/-- RETI (R320). -/
def execReti (s : State) : Result State := (s.fetched 1).returnFromInterrupt.done 16

/-- JP C,a16 (R312). -/
def execJpCA16 (nn : Word) (s : State) : Result State := jumpIf .c nn s

/-- CALL C,a16 (R317). -/
def execCallCA16 (nn : Word) (s : State) : Result State := callIf .c nn s

/-- RST 18H (R321). -/
def execRst18 (s : State) : Result State := restart 0x0018 s

/-- POP HL (R323). -/
def execPopHl (s : State) : Result State := pop .hl s

/-- PUSH HL (R322). -/
def execPushHl (s : State) : Result State := push .hl s

/-- RST 20H (R321). -/
def execRst20 (s : State) : Result State := restart 0x0020 s

/-- JP HL (R313). -/
def execJpHl (s : State) : Result State := jumpHl s

/-- RST 28H (R321). -/
def execRst28 (s : State) : Result State := restart 0x0028 s

/-- POP AF (R323). -/
def execPopAf (s : State) : Result State := pop .af s

/-- PUSH AF (R322). -/
def execPushAf (s : State) : Result State := push .af s

/-- RST 30H (R321). -/
def execRst30 (s : State) : Result State := restart 0x0030 s

/-- RST 38H (R321). -/
def execRst38 (s : State) : Result State := restart 0x0038 s

end Sys2Proof.Machine
end

