-- ==== Sys2Proof/Machine/Illegal.lean ====
section
/-! DEFINITION. The eleven illegal opcodes (R163, R350): each enters the fault state of R430. -/

namespace Sys2Proof.Machine

/-- The illegal opcode 0xD3 (R350). -/
def execIllegalD3 (s : State) : Result State := .next (s.raiseIllegal 0xD3)

/-- The illegal opcode 0xDB (R350). -/
def execIllegalDB (s : State) : Result State := .next (s.raiseIllegal 0xDB)

/-- The illegal opcode 0xDD (R350). -/
def execIllegalDD (s : State) : Result State := .next (s.raiseIllegal 0xDD)

/-- The illegal opcode 0xE3 (R350). -/
def execIllegalE3 (s : State) : Result State := .next (s.raiseIllegal 0xE3)

/-- The illegal opcode 0xE4 (R350). -/
def execIllegalE4 (s : State) : Result State := .next (s.raiseIllegal 0xE4)

/-- The illegal opcode 0xEB (R350). -/
def execIllegalEB (s : State) : Result State := .next (s.raiseIllegal 0xEB)

/-- The illegal opcode 0xEC (R350). -/
def execIllegalEC (s : State) : Result State := .next (s.raiseIllegal 0xEC)

/-- The illegal opcode 0xED (R350). -/
def execIllegalED (s : State) : Result State := .next (s.raiseIllegal 0xED)

/-- The illegal opcode 0xF4 (R350). -/
def execIllegalF4 (s : State) : Result State := .next (s.raiseIllegal 0xF4)

/-- The illegal opcode 0xFC (R350). -/
def execIllegalFC (s : State) : Result State := .next (s.raiseIllegal 0xFC)

/-- The illegal opcode 0xFD (R350). -/
def execIllegalFD (s : State) : Result State := .next (s.raiseIllegal 0xFD)

end Sys2Proof.Machine
end

