-- ==== Sys2Proof/Machine/IncDec.lean ====
section
/-! DEFINITION. Increment, decrement and 16-bit arithmetic (R266 to R273). -/

namespace Sys2Proof.Machine

/-- INC r (R266). -/
def incReg (k : Reg8) (s : State) : Result State :=
  let s := s.fetched 1
  let (v, f) := inc8 (s.regs.get8 k) s.regs.f
  ((s.setReg8 k v).setFlags f).done 4

/-- INC (HL): read, then write (R267). -/
def incMem (s : State) : Result State :=
  let s := s.fetched 1
  let (v, f) := inc8 (s.read s.regs.hl) s.regs.f
  ((s.write s.regs.hl v).setFlags f).done 12

/-- DEC r (R268). -/
def decReg (k : Reg8) (s : State) : Result State :=
  let s := s.fetched 1
  let (v, f) := dec8 (s.regs.get8 k) s.regs.f
  ((s.setReg8 k v).setFlags f).done 4

/-- DEC (HL): read, then write (R269). -/
def decMem (s : State) : Result State :=
  let s := s.fetched 1
  let (v, f) := dec8 (s.read s.regs.hl) s.regs.f
  ((s.write s.regs.hl v).setFlags f).done 12

/-- INC rr and DEC rr: the pair or SP moves by `delta`; no flag changes (R271, R272). -/
def step16 (k : Reg16) (delta : Word) (s : State) : Result State :=
  let s := s.fetched 1
  (s.setReg16 k (s.regs.get16 k + delta)).done 8

/-- ADD HL,rr (R270). -/
def addToHl (k : Reg16) (s : State) : Result State :=
  let s := s.fetched 1
  let (v, f) := addHl s.regs.hl (s.regs.get16 k) s.regs.f
  ((s.setReg16 .hl v).setFlags f).done 8

/-- ADD SP,e8 (R273). -/
def addToSp (e : Byte) (s : State) : Result State :=
  let s := s.fetched 2
  let (v, f) := addSpOffset s.regs.sp e
  ((s.setSp v).setFlags f).done 16

/-- INC BC (R271). -/
def execIncBc (s : State) : Result State := step16 .bc 1 s

/-- INC B (R266). -/
def execIncB (s : State) : Result State := incReg .b s

/-- DEC B (R268). -/
def execDecB (s : State) : Result State := decReg .b s

/-- ADD HL,BC (R270). -/
def execAddHlBc (s : State) : Result State := addToHl .bc s

/-- DEC BC (R272). -/
def execDecBc (s : State) : Result State := step16 .bc (-1) s

/-- INC C (R266). -/
def execIncC (s : State) : Result State := incReg .c s

/-- DEC C (R268). -/
def execDecC (s : State) : Result State := decReg .c s

/-- INC DE (R271). -/
def execIncDe (s : State) : Result State := step16 .de 1 s

/-- INC D (R266). -/
def execIncD (s : State) : Result State := incReg .d s

/-- DEC D (R268). -/
def execDecD (s : State) : Result State := decReg .d s

/-- ADD HL,DE (R270). -/
def execAddHlDe (s : State) : Result State := addToHl .de s

/-- DEC DE (R272). -/
def execDecDe (s : State) : Result State := step16 .de (-1) s

/-- INC E (R266). -/
def execIncE (s : State) : Result State := incReg .e s

/-- DEC E (R268). -/
def execDecE (s : State) : Result State := decReg .e s

/-- INC HL (R271). -/
def execIncHl (s : State) : Result State := step16 .hl 1 s

/-- INC H (R266). -/
def execIncH (s : State) : Result State := incReg .h s

/-- DEC H (R268). -/
def execDecH (s : State) : Result State := decReg .h s

/-- ADD HL,HL (R270). -/
def execAddHlHl (s : State) : Result State := addToHl .hl s

/-- DEC HL (R272). -/
def execDecHl (s : State) : Result State := step16 .hl (-1) s

/-- INC L (R266). -/
def execIncL (s : State) : Result State := incReg .l s

/-- DEC L (R268). -/
def execDecL (s : State) : Result State := decReg .l s

/-- INC SP (R271). -/
def execIncSp (s : State) : Result State := step16 .sp 1 s

/-- INC (HL) (R267). -/
def execIncAtHl (s : State) : Result State := incMem s

/-- DEC (HL) (R269). -/
def execDecAtHl (s : State) : Result State := decMem s

/-- ADD HL,SP (R270). -/
def execAddHlSp (s : State) : Result State := addToHl .sp s

/-- DEC SP (R272). -/
def execDecSp (s : State) : Result State := step16 .sp (-1) s

/-- INC A (R266). -/
def execIncA (s : State) : Result State := incReg .a s

/-- DEC A (R268). -/
def execDecA (s : State) : Result State := decReg .a s

/-- ADD SP,e8 (R273). -/
def execAddSpE8 (e : Byte) (s : State) : Result State := addToSp e s

end Sys2Proof.Machine
end

