-- ==== Sys2Proof/Machine/Loads.lean ====
section
/-! DEFINITION. The loads (R200 to R220): the forms, then one meaning for each opcode. -/

namespace Sys2Proof.Machine

/-- LD r,r': `x[r] <- x[r']` (R200). -/
def loadReg (dst src : Reg8) (s : State) : Result State :=
  let s := s.fetched 1
  (s.setReg8 dst (s.regs.get8 src)).done 4

/-- LD r,d8: `x[r] <- n` (R201). -/
def loadImm (dst : Reg8) (n : Byte) (s : State) : Result State :=
  ((s.fetched 2).setReg8 dst n).done 8

/-- LD r,(HL): the address is taken before the register is written (R202). -/
def loadFromHl (dst : Reg8) (s : State) : Result State :=
  let s := s.fetched 1
  (s.setReg8 dst (s.read s.regs.hl)).done 8

/-- LD (HL),r (R203). -/
def storeToHl (src : Reg8) (s : State) : Result State :=
  let s := s.fetched 1
  (s.write s.regs.hl (s.regs.get8 src)).done 8

/-- LD (HL),d8 (R204). -/
def storeImmToHl (n : Byte) (s : State) : Result State :=
  let s := s.fetched 2
  (s.write s.regs.hl n).done 12

/-- A load of A from address `a`, by an instruction of `len` bytes and `cycles` cycles (R205, R207, R209, R211). -/
def loadA (len cycles : Nat) (a : Word) (s : State) : Result State :=
  let s := s.fetched len
  (s.setReg8 .a (s.read a)).done cycles

/-- A store of A to address `a` (R206, R208, R210, R212). -/
def storeA (len cycles : Nat) (a : Word) (s : State) : Result State :=
  let s := s.fetched len
  (s.write a s.regs.a).done cycles

/-- LD A,(HL+) and LD A,(HL-): load, then HL moves by `delta` (R213, R214). -/
def loadAStep (delta : Word) (s : State) : Result State :=
  let s := s.fetched 1
  let addr := s.regs.hl
  ((s.setReg8 .a (s.read addr)).setReg16 .hl (addr + delta)).done 8

/-- LD (HL+),A and LD (HL-),A: store, then HL moves by `delta` (R215, R216). -/
def storeAStep (delta : Word) (s : State) : Result State :=
  let s := s.fetched 1
  let addr := s.regs.hl
  ((s.write addr s.regs.a).setReg16 .hl (addr + delta)).done 8

/-- LD rr,d16 (R217). -/
def loadImm16 (dst : Reg16) (nn : Word) (s : State) : Result State :=
  ((s.fetched 3).setReg16 dst nn).done 12

/-- LD (a16),SP: the low byte at nn, then the high byte at nn + 1 (R218). -/
def storeSp (nn : Word) (s : State) : Result State :=
  let s := s.fetched 3
  ((s.write nn (loByte s.regs.sp)).write (nn + 1) (hiByte s.regs.sp)).done 20

/-- LD SP,HL (R219). -/
def loadSpHl (s : State) : Result State :=
  let s := s.fetched 1
  (s.setSp s.regs.hl).done 8

/-- LD HL,SP+e8 (R220). -/
def loadHlSpOffset (e : Byte) (s : State) : Result State :=
  let s := s.fetched 2
  let (v, f) := addSpOffset s.regs.sp e
  ((s.setReg16 .hl v).setFlags f).done 12

/-- LD BC,d16 (R217). -/
def execLdBcD16 (nn : Word) (s : State) : Result State := loadImm16 .bc nn s

/-- LD (BC),A (R206). -/
def execLdAtBcA (s : State) : Result State := storeA 1 8 s.regs.bc s

/-- LD B,d8 (R201). -/
def execLdBD8 (n : Byte) (s : State) : Result State := loadImm .b n s

/-- LD (a16),SP (R218). -/
def execLdAtA16Sp (nn : Word) (s : State) : Result State := storeSp nn s

/-- LD A,(BC) (R205). -/
def execLdAAtBc (s : State) : Result State := loadA 1 8 s.regs.bc s

/-- LD C,d8 (R201). -/
def execLdCD8 (n : Byte) (s : State) : Result State := loadImm .c n s

/-- LD DE,d16 (R217). -/
def execLdDeD16 (nn : Word) (s : State) : Result State := loadImm16 .de nn s

/-- LD (DE),A (R206). -/
def execLdAtDeA (s : State) : Result State := storeA 1 8 s.regs.de s

/-- LD D,d8 (R201). -/
def execLdDD8 (n : Byte) (s : State) : Result State := loadImm .d n s

/-- LD A,(DE) (R205). -/
def execLdAAtDe (s : State) : Result State := loadA 1 8 s.regs.de s

/-- LD E,d8 (R201). -/
def execLdED8 (n : Byte) (s : State) : Result State := loadImm .e n s

/-- LD HL,d16 (R217). -/
def execLdHlD16 (nn : Word) (s : State) : Result State := loadImm16 .hl nn s

/-- LD (HL+),A (R215). -/
def execLdAtHlIncA (s : State) : Result State := storeAStep 1 s

/-- LD H,d8 (R201). -/
def execLdHD8 (n : Byte) (s : State) : Result State := loadImm .h n s

/-- LD A,(HL+) (R213). -/
def execLdAAtHlInc (s : State) : Result State := loadAStep 1 s

/-- LD L,d8 (R201). -/
def execLdLD8 (n : Byte) (s : State) : Result State := loadImm .l n s

/-- LD SP,d16 (R217). -/
def execLdSpD16 (nn : Word) (s : State) : Result State := loadImm16 .sp nn s

/-- LD (HL-),A (R216). -/
def execLdAtHlDecA (s : State) : Result State := storeAStep (-1) s

/-- LD (HL),d8 (R204). -/
def execLdAtHlD8 (n : Byte) (s : State) : Result State := storeImmToHl n s

/-- LD A,(HL-) (R214). -/
def execLdAAtHlDec (s : State) : Result State := loadAStep (-1) s

/-- LD A,d8 (R201). -/
def execLdAD8 (n : Byte) (s : State) : Result State := loadImm .a n s

/-- LD B,B (R200). -/
def execLdBB (s : State) : Result State := loadReg .b .b s

/-- LD B,C (R200). -/
def execLdBC (s : State) : Result State := loadReg .b .c s

/-- LD B,D (R200). -/
def execLdBD (s : State) : Result State := loadReg .b .d s

/-- LD B,E (R200). -/
def execLdBE (s : State) : Result State := loadReg .b .e s

/-- LD B,H (R200). -/
def execLdBH (s : State) : Result State := loadReg .b .h s

/-- LD B,L (R200). -/
def execLdBL (s : State) : Result State := loadReg .b .l s

/-- LD B,(HL) (R202). -/
def execLdBAtHl (s : State) : Result State := loadFromHl .b s

/-- LD B,A (R200). -/
def execLdBA (s : State) : Result State := loadReg .b .a s

/-- LD C,B (R200). -/
def execLdCB (s : State) : Result State := loadReg .c .b s

/-- LD C,C (R200). -/
def execLdCC (s : State) : Result State := loadReg .c .c s

/-- LD C,D (R200). -/
def execLdCD (s : State) : Result State := loadReg .c .d s

/-- LD C,E (R200). -/
def execLdCE (s : State) : Result State := loadReg .c .e s

/-- LD C,H (R200). -/
def execLdCH (s : State) : Result State := loadReg .c .h s

/-- LD C,L (R200). -/
def execLdCL (s : State) : Result State := loadReg .c .l s

/-- LD C,(HL) (R202). -/
def execLdCAtHl (s : State) : Result State := loadFromHl .c s

/-- LD C,A (R200). -/
def execLdCA (s : State) : Result State := loadReg .c .a s

/-- LD D,B (R200). -/
def execLdDB (s : State) : Result State := loadReg .d .b s

/-- LD D,C (R200). -/
def execLdDC (s : State) : Result State := loadReg .d .c s

/-- LD D,D (R200). -/
def execLdDD (s : State) : Result State := loadReg .d .d s

/-- LD D,E (R200). -/
def execLdDE (s : State) : Result State := loadReg .d .e s

/-- LD D,H (R200). -/
def execLdDH (s : State) : Result State := loadReg .d .h s

/-- LD D,L (R200). -/
def execLdDL (s : State) : Result State := loadReg .d .l s

/-- LD D,(HL) (R202). -/
def execLdDAtHl (s : State) : Result State := loadFromHl .d s

/-- LD D,A (R200). -/
def execLdDA (s : State) : Result State := loadReg .d .a s

/-- LD E,B (R200). -/
def execLdEB (s : State) : Result State := loadReg .e .b s

/-- LD E,C (R200). -/
def execLdEC (s : State) : Result State := loadReg .e .c s

/-- LD E,D (R200). -/
def execLdED (s : State) : Result State := loadReg .e .d s

/-- LD E,E (R200). -/
def execLdEE (s : State) : Result State := loadReg .e .e s

/-- LD E,H (R200). -/
def execLdEH (s : State) : Result State := loadReg .e .h s

/-- LD E,L (R200). -/
def execLdEL (s : State) : Result State := loadReg .e .l s

/-- LD E,(HL) (R202). -/
def execLdEAtHl (s : State) : Result State := loadFromHl .e s

/-- LD E,A (R200). -/
def execLdEA (s : State) : Result State := loadReg .e .a s

/-- LD H,B (R200). -/
def execLdHB (s : State) : Result State := loadReg .h .b s

/-- LD H,C (R200). -/
def execLdHC (s : State) : Result State := loadReg .h .c s

/-- LD H,D (R200). -/
def execLdHD (s : State) : Result State := loadReg .h .d s

/-- LD H,E (R200). -/
def execLdHE (s : State) : Result State := loadReg .h .e s

/-- LD H,H (R200). -/
def execLdHH (s : State) : Result State := loadReg .h .h s

/-- LD H,L (R200). -/
def execLdHL (s : State) : Result State := loadReg .h .l s

/-- LD H,(HL) (R202). -/
def execLdHAtHl (s : State) : Result State := loadFromHl .h s

/-- LD H,A (R200). -/
def execLdHA (s : State) : Result State := loadReg .h .a s

/-- LD L,B (R200). -/
def execLdLB (s : State) : Result State := loadReg .l .b s

/-- LD L,C (R200). -/
def execLdLC (s : State) : Result State := loadReg .l .c s

/-- LD L,D (R200). -/
def execLdLD (s : State) : Result State := loadReg .l .d s

/-- LD L,E (R200). -/
def execLdLE (s : State) : Result State := loadReg .l .e s

/-- LD L,H (R200). -/
def execLdLH (s : State) : Result State := loadReg .l .h s

/-- LD L,L (R200). -/
def execLdLL (s : State) : Result State := loadReg .l .l s

/-- LD L,(HL) (R202). -/
def execLdLAtHl (s : State) : Result State := loadFromHl .l s

/-- LD L,A (R200). -/
def execLdLA (s : State) : Result State := loadReg .l .a s

/-- LD (HL),B (R203). -/
def execLdAtHlB (s : State) : Result State := storeToHl .b s

/-- LD (HL),C (R203). -/
def execLdAtHlC (s : State) : Result State := storeToHl .c s

/-- LD (HL),D (R203). -/
def execLdAtHlD (s : State) : Result State := storeToHl .d s

/-- LD (HL),E (R203). -/
def execLdAtHlE (s : State) : Result State := storeToHl .e s

/-- LD (HL),H (R203). -/
def execLdAtHlH (s : State) : Result State := storeToHl .h s

/-- LD (HL),L (R203). -/
def execLdAtHlL (s : State) : Result State := storeToHl .l s

/-- LD (HL),A (R203). -/
def execLdAtHlA (s : State) : Result State := storeToHl .a s

/-- LD A,B (R200). -/
def execLdAB (s : State) : Result State := loadReg .a .b s

/-- LD A,C (R200). -/
def execLdAC (s : State) : Result State := loadReg .a .c s

/-- LD A,D (R200). -/
def execLdAD (s : State) : Result State := loadReg .a .d s

/-- LD A,E (R200). -/
def execLdAE (s : State) : Result State := loadReg .a .e s

/-- LD A,H (R200). -/
def execLdAH (s : State) : Result State := loadReg .a .h s

/-- LD A,L (R200). -/
def execLdAL (s : State) : Result State := loadReg .a .l s

/-- LD A,(HL) (R202). -/
def execLdAAtHl (s : State) : Result State := loadFromHl .a s

/-- LD A,A (R200). -/
def execLdAA (s : State) : Result State := loadReg .a .a s

/-- LDH (a8),A (R210). -/
def execLdhAtA8A (n : Byte) (s : State) : Result State := storeA 2 12 (highPage n) s

/-- LD (C),A (R212). -/
def execLdAtCA (s : State) : Result State := storeA 1 8 (highPage s.regs.c) s

/-- LD (a16),A (R208). -/
def execLdAtA16A (nn : Word) (s : State) : Result State := storeA 3 16 nn s

/-- LDH A,(a8) (R209). -/
def execLdhAAtA8 (n : Byte) (s : State) : Result State := loadA 2 12 (highPage n) s

/-- LD A,(C) (R211). -/
def execLdAAtC (s : State) : Result State := loadA 1 8 (highPage s.regs.c) s

/-- LD HL,SP+e8 (R220). -/
def execLdHlSpE8 (e : Byte) (s : State) : Result State := loadHlSpOffset e s

/-- LD SP,HL (R219). -/
def execLdSpHl (s : State) : Result State := loadSpHl s

/-- LD A,(a16) (R207). -/
def execLdAAtA16 (nn : Word) (s : State) : Result State := loadA 3 16 nn s

end Sys2Proof.Machine
end

