-- ==== Sys2Proof/Machine/Rotates.lean ====
section
/-! DEFINITION. Rotates, shifts and SWAP (R280 to R299). -/

namespace Sys2Proof.Machine

/-- RLCA, RRCA, RLA, RRA (R280 to R283). -/
def rotateA (op : RotOp) (s : State) : Result State :=
  let s := s.fetched 1
  let (v, f) := op.resultA s.regs.a s.regs.f
  ((s.setReg8 .a v).setFlags f).done 4

/-- The register forms of the CB rotates, shifts and SWAP (R284 to R298). -/
def rotateReg (op : RotOp) (k : Reg8) (s : State) : Result State :=
  let s := s.fetched 2
  let (v, f) := op.result (s.regs.get8 k) s.regs.f
  ((s.setReg8 k v).setFlags f).done 8

/-- The (HL) forms: read, then write (R285 to R299). -/
def rotateMem (op : RotOp) (s : State) : Result State :=
  let s := s.fetched 2
  let (v, f) := op.result (s.read s.regs.hl) s.regs.f
  ((s.write s.regs.hl v).setFlags f).done 16

/-- RLCA (R280). -/
def execRlca (s : State) : Result State := rotateA .rlc s

/-- RRCA (R281). -/
def execRrca (s : State) : Result State := rotateA .rrc s

/-- RLA (R282). -/
def execRla (s : State) : Result State := rotateA .rl s

/-- RRA (R283). -/
def execRra (s : State) : Result State := rotateA .rr s

/-- RLC B (R284). -/
def execRlcB (s : State) : Result State := rotateReg .rlc .b s

/-- RLC C (R284). -/
def execRlcC (s : State) : Result State := rotateReg .rlc .c s

/-- RLC D (R284). -/
def execRlcD (s : State) : Result State := rotateReg .rlc .d s

/-- RLC E (R284). -/
def execRlcE (s : State) : Result State := rotateReg .rlc .e s

/-- RLC H (R284). -/
def execRlcH (s : State) : Result State := rotateReg .rlc .h s

/-- RLC L (R284). -/
def execRlcL (s : State) : Result State := rotateReg .rlc .l s

/-- RLC (HL) (R285). -/
def execRlcAtHl (s : State) : Result State := rotateMem .rlc s

/-- RLC A (R284). -/
def execRlcA (s : State) : Result State := rotateReg .rlc .a s

/-- RRC B (R286). -/
def execRrcB (s : State) : Result State := rotateReg .rrc .b s

/-- RRC C (R286). -/
def execRrcC (s : State) : Result State := rotateReg .rrc .c s

/-- RRC D (R286). -/
def execRrcD (s : State) : Result State := rotateReg .rrc .d s

/-- RRC E (R286). -/
def execRrcE (s : State) : Result State := rotateReg .rrc .e s

/-- RRC H (R286). -/
def execRrcH (s : State) : Result State := rotateReg .rrc .h s

/-- RRC L (R286). -/
def execRrcL (s : State) : Result State := rotateReg .rrc .l s

/-- RRC (HL) (R287). -/
def execRrcAtHl (s : State) : Result State := rotateMem .rrc s

/-- RRC A (R286). -/
def execRrcA (s : State) : Result State := rotateReg .rrc .a s

/-- RL B (R288). -/
def execRlB (s : State) : Result State := rotateReg .rl .b s

/-- RL C (R288). -/
def execRlC (s : State) : Result State := rotateReg .rl .c s

/-- RL D (R288). -/
def execRlD (s : State) : Result State := rotateReg .rl .d s

/-- RL E (R288). -/
def execRlE (s : State) : Result State := rotateReg .rl .e s

/-- RL H (R288). -/
def execRlH (s : State) : Result State := rotateReg .rl .h s

/-- RL L (R288). -/
def execRlL (s : State) : Result State := rotateReg .rl .l s

/-- RL (HL) (R289). -/
def execRlAtHl (s : State) : Result State := rotateMem .rl s

/-- RL A (R288). -/
def execRlA (s : State) : Result State := rotateReg .rl .a s

/-- RR B (R290). -/
def execRrB (s : State) : Result State := rotateReg .rr .b s

/-- RR C (R290). -/
def execRrC (s : State) : Result State := rotateReg .rr .c s

/-- RR D (R290). -/
def execRrD (s : State) : Result State := rotateReg .rr .d s

/-- RR E (R290). -/
def execRrE (s : State) : Result State := rotateReg .rr .e s

/-- RR H (R290). -/
def execRrH (s : State) : Result State := rotateReg .rr .h s

/-- RR L (R290). -/
def execRrL (s : State) : Result State := rotateReg .rr .l s

/-- RR (HL) (R291). -/
def execRrAtHl (s : State) : Result State := rotateMem .rr s

/-- RR A (R290). -/
def execRrA (s : State) : Result State := rotateReg .rr .a s

/-- SLA B (R292). -/
def execSlaB (s : State) : Result State := rotateReg .sla .b s

/-- SLA C (R292). -/
def execSlaC (s : State) : Result State := rotateReg .sla .c s

/-- SLA D (R292). -/
def execSlaD (s : State) : Result State := rotateReg .sla .d s

/-- SLA E (R292). -/
def execSlaE (s : State) : Result State := rotateReg .sla .e s

/-- SLA H (R292). -/
def execSlaH (s : State) : Result State := rotateReg .sla .h s

/-- SLA L (R292). -/
def execSlaL (s : State) : Result State := rotateReg .sla .l s

/-- SLA (HL) (R293). -/
def execSlaAtHl (s : State) : Result State := rotateMem .sla s

/-- SLA A (R292). -/
def execSlaA (s : State) : Result State := rotateReg .sla .a s

/-- SRA B (R294). -/
def execSraB (s : State) : Result State := rotateReg .sra .b s

/-- SRA C (R294). -/
def execSraC (s : State) : Result State := rotateReg .sra .c s

/-- SRA D (R294). -/
def execSraD (s : State) : Result State := rotateReg .sra .d s

/-- SRA E (R294). -/
def execSraE (s : State) : Result State := rotateReg .sra .e s

/-- SRA H (R294). -/
def execSraH (s : State) : Result State := rotateReg .sra .h s

/-- SRA L (R294). -/
def execSraL (s : State) : Result State := rotateReg .sra .l s

/-- SRA (HL) (R295). -/
def execSraAtHl (s : State) : Result State := rotateMem .sra s

/-- SRA A (R294). -/
def execSraA (s : State) : Result State := rotateReg .sra .a s

/-- SWAP B (R296). -/
def execSwapB (s : State) : Result State := rotateReg .swap .b s

/-- SWAP C (R296). -/
def execSwapC (s : State) : Result State := rotateReg .swap .c s

/-- SWAP D (R296). -/
def execSwapD (s : State) : Result State := rotateReg .swap .d s

/-- SWAP E (R296). -/
def execSwapE (s : State) : Result State := rotateReg .swap .e s

/-- SWAP H (R296). -/
def execSwapH (s : State) : Result State := rotateReg .swap .h s

/-- SWAP L (R296). -/
def execSwapL (s : State) : Result State := rotateReg .swap .l s

/-- SWAP (HL) (R297). -/
def execSwapAtHl (s : State) : Result State := rotateMem .swap s

/-- SWAP A (R296). -/
def execSwapA (s : State) : Result State := rotateReg .swap .a s

/-- SRL B (R298). -/
def execSrlB (s : State) : Result State := rotateReg .srl .b s

/-- SRL C (R298). -/
def execSrlC (s : State) : Result State := rotateReg .srl .c s

/-- SRL D (R298). -/
def execSrlD (s : State) : Result State := rotateReg .srl .d s

/-- SRL E (R298). -/
def execSrlE (s : State) : Result State := rotateReg .srl .e s

/-- SRL H (R298). -/
def execSrlH (s : State) : Result State := rotateReg .srl .h s

/-- SRL L (R298). -/
def execSrlL (s : State) : Result State := rotateReg .srl .l s

/-- SRL (HL) (R299). -/
def execSrlAtHl (s : State) : Result State := rotateMem .srl s

/-- SRL A (R298). -/
def execSrlA (s : State) : Result State := rotateReg .srl .a s

end Sys2Proof.Machine
end

