-- ==== Sys2Proof/Machine/Prefix.lean ====
section
/-! DEFINITION. The CB prefix (R349): the CB-table rule its second byte selects, by the fields of R153 and R159. -/

namespace Sys2Proof.Machine

/-- Field `r` (R154): none for value 6, the byte at HL. -/
def regOfField (z : Nat) : Option Reg8 :=
  match z with
  | 0 => some .b
  | 1 => some .c
  | 2 => some .d
  | 3 => some .e
  | 4 => some .h
  | 5 => some .l
  | 6 => none
  | _ => some .a

/-- Field `y` of a CB byte with x = 0 (R159). -/
def rotOpOfField (y : Nat) : RotOp :=
  match y with
  | 0 => .rlc
  | 1 => .rrc
  | 2 => .rl
  | 3 => .rr
  | 4 => .sla
  | 5 => .sra
  | 6 => .swap
  | _ => .srl

/-- PREFIX CB: `op2 := Fetch8(); execute the CB-table rule for op2` (R349). The two bytes are one instruction. -/
def execPrefixCb (op2 : Byte) (s : State) : Result State :=
  let x := op2.toNat / 64
  let y := op2.toNat / 8 % 8
  match x, regOfField (op2.toNat % 8) with
  | 0, some k => rotateReg (rotOpOfField y) k s
  | 0, none => rotateMem (rotOpOfField y) s
  | 1, some k => testBitReg y k s
  | 1, none => testBitMem y s
  | 2, some k => resetBitReg y k s
  | 2, none => resetBitMem y s
  | _, some k => raiseBitReg y k s
  | _, none => raiseBitMem y s

end Sys2Proof.Machine
end

