-- ==== Sys2Proof/Machine/System.lean ====
section
/-! DEFINITION. CPU control, DAA and the flag instructions (R340 to R348). -/

namespace Sys2Proof.Machine

/-- HALT, by `HALT_BUG_TRIGGER` (R341). -/
def halt (s : State) : Result State :=
  let s := s.fetched 1
  if s.config.haltBugTrigger = .entryPending ∧ s.cpu.ime = false ∧ s.irq.pending ≠ 0 then
    State.done { s with cpu := { s.cpu with haltBug := true } } 4
  else State.done { s with cpu := { s.cpu with halted := true } } 4

/-- DI (R343). -/
def disableInterrupts (s : State) : Result State :=
  let s := s.fetched 1
  State.done { s with cpu := { s.cpu with ime := false, eiDelay := 0 } } 4

/-- EI: the delay starts only when IME is 0 and no delay is running (R344). -/
def enableInterrupts (s : State) : Result State :=
  let s := s.fetched 1
  if s.cpu.ime = false ∧ s.cpu.eiDelay = 0 then State.done { s with cpu := { s.cpu with eiDelay := 2 } } 4
  else s.done 4

/-- DAA (R345). -/
def decimalAdjust (s : State) : Result State :=
  let s := s.fetched 1
  let (v, f) := daa8 s.config.daaSubBorrowSetsC s.regs.a s.regs.f
  ((s.setReg8 .a v).setFlags f).done 4

/-- CPL (R346). -/
def complementA (s : State) : Result State :=
  let s := s.fetched 1
  ((s.setReg8 .a (s.regs.a ^^^ 0xFF)).setFlags (cplFlags s.regs.f)).done 4

/-- SCF and CCF: only the flags (R347, R348). -/
def writeFlags (g : Flags → Flags) (s : State) : Result State :=
  let s := s.fetched 1
  (s.setFlags (g s.regs.f)).done 4

/-- NOP (R340). -/
def execNop (s : State) : Result State := (s.fetched 1).done 4

/-- STOP: the second byte is fetched and discarded (R342). -/
def execStop (_n : Byte) (s : State) : Result State := (s.fetched 2).done 4

/-- DAA (R345). -/
def execDaa (s : State) : Result State := decimalAdjust s

/-- CPL (R346). -/
def execCpl (s : State) : Result State := complementA s

/-- SCF (R347). -/
def execScf (s : State) : Result State := writeFlags scfFlags s

/-- CCF (R348). -/
def execCcf (s : State) : Result State := writeFlags ccfFlags s

/-- HALT (R341). -/
def execHalt (s : State) : Result State := halt s

/-- DI (R343). -/
def execDi (s : State) : Result State := disableInterrupts s

/-- EI (R344). -/
def execEi (s : State) : Result State := enableInterrupts s

end Sys2Proof.Machine
end

