-- ==== Sys2Proof/Machine/CpuStep.lean ====
section
/-! DEFINITION. The CPU step (R400), the System's step around it (R523, R531, R542), and the placing of an instruction
where the next fetch reads it. -/

namespace Sys2Proof.Machine

/-! ### Fetch -/

/-- Where the byte after the opcode is fetched: PC + 1, and PC itself under the HALT bug, whose opcode fetch does not
advance PC (R14, R152, R349). -/
def State.operandAddr (s : State) : Word := if s.cpu.haltBug then s.regs.pc else s.regs.pc + 1

/-- The instruction at PC, its bytes read through the bus in address order (R71, R93, R151). Reads change nothing (R87), so
reading two operand bytes whatever the length is no effect (log entry 2). -/
def State.fetchInstr (s : State) : Instr :=
  decodeBytes (s.read s.regs.pc) (s.read s.operandAddr) (s.read (s.operandAddr + 1))

/-! ### The CPU step -/

/-- R413: the wake from HALT without dispatch; by `HALT_BUG_TRIGGER` it sets `halt_bug`. -/
def State.wake (s : State) : State :=
  { s with
    cpu :=
      { s.cpu with
        halted := false
        haltBug := if s.config.haltBugTrigger = .wakeIme0 then true else s.cpu.haltBug } }

/-- The end of a step that executed an instruction: nothing more for an illegal opcode, else `ei_delay` counts down
(R344, R350, R400). -/
def State.afterInstr (s : State) : State := if s.cpu.fault.isSome then s else s.countEiDelay

/-- R400: fetch, execute, count `ei_delay` down. -/
def runInstr (s : State) : Result State :=
  match exec s.fetchInstr s with
  | .next t => .next t.afterInstr
  | .fault r => .fault r
  | .refused r => .refused r

/-- R400: `cpu.step()`. The count it returns is the growth of `cycles` (R401). -/
def cpuStep (s : State) : Result State :=
  if s.cpu.fault.isSome then .next s
  else
    match (if s.cpu.ime then s.irq.first else none) with
    | some k => .next (s.takeInterrupt k)
    | none =>
      if s.cpu.halted then
        if s.irq.pending = 0 then .next (s.tick 4) else runInstr s.wake
      else runInstr s

/-! ### The System step -/

/-- R530, R531, R542: the devices advance by `n` cycles, in the order PPU, APU, timer, joypad, and `frameAcc` grows. -/
def State.advanceDevices (n : Nat) (s : State) : State :=
  let s := ((s.ppuAdvance n).apuAdvance n).timerAdvance n
  let s := s.joypadAdvance n
  { s with frameAcc := s.frameAcc + n }

/-- R531: after a CPU step that returned `n` cycles the devices advance, if n > 0. -/
def State.advanceBy (n : Nat) (s : State) : State := if n = 0 then s else s.advanceDevices n

/-- The host's `step()` (R531); without a cartridge it changes nothing (R523). -/
def systemStep (s : State) : Result State :=
  if s.cart = none then .next s
  else
    match cpuStep s with
    | .next t => .next (t.advanceBy (t.cpu.cycles - s.cpu.cycles))
    | .fault r => .fault r
    | .refused r => .refused r

/-! ### Placing an instruction (log entry 1) -/

/-- A 32 KiB NoMBC cartridge whose bytes are all 0x00, for a machine that has none. -/
def Cart.blank : Cart where
  rom      := { len := 0x8000, cells := [] }
  title    := List.replicate 16 0
  typeCode := 0x00
  romBanks := 2
  ramBanks := 0
  battery  := false
  mbc      := .noMbc
  extRam   := []

/-- A byte put into the ROM image at the offset the controller maps address `a` to. -/
def Cart.pokeRom (k : Cart) (a : Nat) (v : Byte) : Cart :=
  { k with rom := { len := max k.rom.len (k.romOffset a + 1), cells := k.rom.cells.write (k.romOffset a) v } }

/-- A byte put where a read of `a` in 0xA000..0xBFFF finds it, if it finds any storage. -/
def Cart.pokeRam (k : Cart) (a : Nat) (v : Byte) : Cart :=
  match k.ramTarget a with
  | .byte offset => { k with extRam := k.extRam.write offset v }
  | _ => k

/-- A byte put where a fetch at `a` reads it: the ROM image, external RAM or an internal memory. Addresses that are
registers or read a constant are left alone. -/
def State.pokeByte (s : State) (a : Word) (v : Byte) : State :=
  match regionOf a with
  | .rom => { s with cart := some ((s.cart.getD Cart.blank).pokeRom a.toNat v) }
  | .extRam => { s with cart := s.cart.map fun k => k.pokeRam a.toNat v }
  | .vram => s.store a.toNat v
  | .wram => s.store a.toNat v
  | .echo => s.store (a.toNat - 0x2000) v
  | .oam => s.store a.toNat v
  | .hram => s.store a.toNat v
  | .io => s
  | .unusable => s
  | .ie => s

/-- The CPU free to execute the instruction at PC in the next step: no fault, not halted, no HALT bug, and no dispatch. -/
def State.readyToFetch (s : State) : State :=
  { s with
    cart := some (s.cart.getD Cart.blank)
    cpu :=
      { s.cpu with
        fault := none, halted := false, haltBug := false, ime := if s.irq.pending = 0 then s.cpu.ime else false } }

/-- The instruction whose `spec/opcode_table.json` bits are `w`, placed at PC, so that the next step runs it. -/
def State.placeWord (s : State) (nbits w : Nat) : State :=
  let (op, b1, b2) := tableBytes nbits w
  ((s.readyToFetch.pokeByte s.regs.pc op).pokeByte (s.regs.pc + 1) b1).pokeByte (s.regs.pc + 2) b2

end Sys2Proof.Machine
end

