-- ==== Sys2Proof/Machine/HostCalls.lean ====
section
/-! DEFINITION. The host's operations beside `step`, each a call between steps (R520 to R533, R431, R452, R492, R131). -/

namespace Sys2Proof.Machine

/-! ### Error kinds -/

/-- The error kinds of R431. -/
inductive ErrorKind where
  | none
  | illegalOpcode
  | invalidCartridge
  | unsupportedFeature
  | stateIncompatible
deriving DecidableEq, Repr

/-- R431: the code of an error kind. -/
def ErrorKind.code : ErrorKind → Nat
  | .none => 0
  | .illegalOpcode => 1
  | .invalidCartridge => 2
  | .unsupportedFeature => 3
  | .stateIncompatible => 4

/-- R430, R431: the error the CPU shows the host. -/
def Cpu.error (c : Cpu) : ErrorKind := if c.fault.isSome then .illegalOpcode else .none

/-! ### Reset and power-up -/

/-- R49: the address is one of the internal memories: VRAM, WRAM, OAM, HRAM, wave RAM. -/
def isInternalRam (a : Nat) : Bool :=
  (0x8000 ≤ a && a < 0xA000) || (0xC000 ≤ a && a < 0xE000) || (0xFE00 ≤ a && a < 0xFEA0) ||
    (0xFF30 ≤ a && a < 0xFF40) || (0xFF80 ≤ a && a < 0xFFFF)

/-- R520, R131, R132: the cartridge at reset: image and header kept, MBC registers reset, external RAM kept with a battery
and `RAM_INIT` without. -/
def Cart.reset (k : Cart) (extRamInit : Memory) : Cart :=
  { k with mbc := k.mbc.reset, extRam := if k.battery then k.extRam else k.fitRam extRamInit }

/-- `reset()` (R520): everything at its reset value; the parameters, the ROM image and the header are kept. -/
def State.hostReset (s : State) : State :=
  { State.reset with
    config := s.config
    mem := s.config.ramInit.filter fun cell => isInternalRam cell.1
    cart := s.cart.map fun k => k.reset s.config.extRamInit
    ppu := Ppu.reset s.config.shades }

/-- `loadCartridge(bytes)` (R103, R522, R431): a valid image replaces the cartridge and the machine is reset, with the
warning UnsupportedFeature for a feature left inert (D41); an invalid one changes nothing. The snapshot is
`BATTERY_IMAGE` (R131). -/
def State.loadCartridge (s : State) (rom : RomImage) (snapshot : Option (List Byte)) : ErrorKind × State :=
  match Cart.ofImage s.config.extRamInit rom snapshot with
  | none => (.invalidCartridge, s)
  | some k =>
    (if hasInertFeature k.typeCode then .unsupportedFeature else .none,
      State.hostReset { s with cart := some k })

/-! ### Running a frame -/

/-- R530's loop: steps until `frameAcc` reaches 70,224; the Bool says that it did, not that a fault ended it. Every step
counts at least 4 cycles, so 17,556 turns are enough. -/
def runFrameLoop : Nat → State → Result (Bool × State)
  | 0, s => .next (true, s)
  | k + 1, s =>
    if s.frameAcc < 70224 then
      match systemStep s with
      | .next t => if t.cpu.cycles = s.cpu.cycles then .next (false, t) else runFrameLoop k t
      | .fault r => .fault r
      | .refused r => .refused r
    else .next (true, s)

/-- `runFrame()` (R530, R523, R430). -/
def State.runFrame (s : State) : Result State :=
  if s.cart = none ∨ s.cpu.fault.isSome then .next s
  else
    match runFrameLoop 17556 { s with ppu := { s.ppu with frameComplete := false } } with
    | .next (true, t) => .next { t with frameAcc := t.frameAcc - 70224, frameTotal := t.frameTotal + 70224 }
    | .next (false, t) => .next t
    | .fault r => .fault r
    | .refused r => .refused r

/-! ### Buttons, picture, sound -/

/-- `setButton(b, p)` (R452): a released-to-pressed edge of a button whose column is selected requests the joypad
interrupt. Before any cartridge is loaded the call changes nothing: DEDUCED from I18, since R452 names no such condition
and R523 does not list the call (log entry 26). -/
def State.setButton (s : State) (k : Button) (p : Bool) : State :=
  if s.cart = none then s
  else
    let pressed := { s with joypad := { s.joypad with pressed := s.joypad.pressed.set k p } }
    if p && !s.joypad.pressed.get k && s.joypad.columnSelected k then pressed.request .joypad else pressed

/-- `buttonsState()` (R452). -/
def State.buttonsState (s : State) : Buttons := s.joypad.pressed

/-- `framebuffer()` (R471, R523). -/
def State.framebuffer (s : State) : List (List Rgba) :=
  if s.cart = none then blankFrame s.config.shades.s0 else s.ppu.output

/-- `audioSamples(n)` (R492, R523): up to `n` samples, oldest first, and the state without them. -/
def State.audioSamples (s : State) (n : Nat) : List Sample × State :=
  if s.cart = none then ([], s)
  else (s.apu.samples.take n, { s with apu := { s.apu with samples := s.apu.samples.drop n } })

/-! ### Battery and saved states -/

/-- `batterySnapshot()` (R131, R532): empty without a battery. With no cartridge it is empty too: DESIGN CHOICE, the spec
gives no answer there (log entry 26). -/
def State.batterySnapshot (s : State) : List Byte :=
  match s.cart with
  | some k => if k.battery then k.extRam.readAll 0 k.extRamSize else []
  | none => []

/-- `restoreBattery(bytes)` (R131, R532): StateIncompatible, and no change, without a battery or for a wrong length. With
no cartridge nothing changes (I18), and the kind answered is StateIncompatible: DESIGN CHOICE (log entry 26). -/
def State.restoreBattery (s : State) (bytes : List Byte) : ErrorKind × State :=
  match s.cart with
  | some k =>
    if k.battery ∧ bytes.length = k.extRamSize then
      (.none, { s with cart := some { k with extRam := k.fitRam (Memory.writeAll [] 0 bytes) } })
    else (.stateIncompatible, s)
  | none => (.stateIncompatible, s)

/-- What `saveState()` gives: the format version that wrote it, and every element of the state (R532). -/
structure SavedState where
  version : Nat
  state   : State
deriving DecidableEq, Repr

/-- `saveState()` (R532): every element of the state, under this core's format version; the wire format is out of scope
(R7, log entry 19). -/
def State.saveState (s : State) : SavedState := { version := Config.stateVersion, state := s }

/-- The two states hold the same cartridge, which is there: the same image (log entries 19, 26). -/
def sameCartridge (s t : State) : Bool := s.cart.isSome && s.cart.map Cart.rom == t.cart.map Cart.rom

/-- `loadState` (R431, R532): the saved state (the parameters are no part of it), or StateIncompatible and no change for
another format version or another cartridge. With no cartridge in the machine nothing changes (I18), and the kind answered
is StateIncompatible: DESIGN CHOICE (log entry 26). -/
def State.loadState (s : State) (saved : SavedState) : ErrorKind × State :=
  if saved.version = Config.stateVersion ∧ sameCartridge s saved.state then
    (.none, { saved.state with config := s.config })
  else (.stateIncompatible, s)

end Sys2Proof.Machine
end

