-- ==== Sys2Proof/Safety.lean ====
section
/-! DEFINITION. What a safe run is: the invariants every step keeps; and the words the statements use: what an
instruction that only passes leaves, what a store can reach, where each instruction stores. -/

namespace Sys2Proof.Machine

/-! ### Invariants -/

/-- The internal memory is in canonical form and lists only addresses of VRAM, WRAM, OAM, HRAM and wave RAM (R49). -/
abbrev State.MemOk (s : State) : Prop := s.mem.wf ∧ ∀ cell ∈ s.mem, isInternalRam cell.1 = true

/-- The bank registers that are never 0 (R107, R113, R118). -/
def Mbc.BankOk : Mbc → Prop
  | .noMbc => True
  | .mbc1 r => r.bankLow ≠ 0
  | .mbc2 r => r.romBank ≠ 0
  | .mbc3 r => r.romBank ≠ 0
  | .mbc5 _ => True

/-- A byte the external RAM can hold: MBC2's internal RAM holds nibbles (R117). -/
def Mbc.HoldsByte (m : Mbc) (v : Byte) : Prop :=
  match m with
  | .mbc2 _ => v.toNat < 16
  | _ => True

/-- A cartridge: image and external RAM in canonical form, the RAM inside its size (R131), bank registers legal. -/
structure Cart.Ok (k : Cart) : Prop where
  rom    : k.rom.cells.wf
  ram    : k.extRam.wf
  inside : ∀ cell ∈ k.extRam, cell.1 < k.extRamSize ∧ k.mbc.HoldsByte cell.2
  bank   : k.mbc.BankOk

/-- The cartridge, if there is one, is legal. -/
def State.CartOk (s : State) : Prop := ∀ k, s.cart = some k → k.Ok

/-- The CPU control state between steps: `stopped` reads 0 (R41), a running EI delay has one step left, IME is then 0 and
the CPU is not halted (R38, R344). -/
structure Cpu.Ok (c : Cpu) : Prop where
  stopped : c.stopped = false
  delay   : c.eiDelay ≠ 2
  waiting : c.eiDelay = 1 → c.ime = false ∧ c.halted = false

/-- R441: the residuals stay below their periods. -/
abbrev Timer.Ok (t : Timer) : Prop := t.divAcc < 256 ∧ t.timaAcc < timaPeriod t.tac

/-- R461: how long a mode (or a V-blank line) lasts. -/
def PpuMode.duration : PpuMode → Nat
  | .hblank => 204
  | .vblank => 456
  | .oamScan => 80
  | .drawing => 172

/-- A framebuffer of 144 rows of 160 pixels (R460). -/
abbrev FrameShape (f : List (List Rgba)) : Prop := f.length = 144 ∧ ∀ row ∈ f, row.length = 160

/-- The PPU between steps (R460, R461, R463, R465, R467). -/
structure Ppu.Ok (p : Ppu) : Prop where
  line    : p.line < 154
  vblank  : p.mode = .vblank ↔ 144 ≤ p.line
  elapsed : p.modeCycles < p.mode.duration
  sprites : p.sprites.length ≤ 10 ∧ ∀ i ∈ p.sprites, i < 40
  bgIndex : p.bgIndex.length = 160
  work    : FrameShape p.work
  output  : FrameShape p.output
  off     : p.lcdOn = false → p.mode = .hblank ∧ p.line = 0 ∧ p.modeCycles = 0
  stat    : p.statLine = p.statLevel

/-- Every channel is disabled. -/
def Apu.silent (a : Apu) : Prop :=
  a.ch1.enabled = false ∧ a.ch2.enabled = false ∧ a.ch3.enabled = false ∧ a.ch4.enabled = false

/-- The APU between steps: counters inside their ranges (R482, R483, R492), and nothing on with the power off (R490). -/
structure Apu.Ok (a : Apu) (capacity : Nat) : Prop where
  fsAcc     : a.fsAcc < 8192
  length1   : a.ch1.length ≤ 64
  length2   : a.ch2.length ≤ 64
  length3   : a.ch3.length ≤ 256
  length4   : a.ch4.length ≤ 64
  sampleAcc : a.sampleAcc < 4194304
  samples   : a.samples.length ≤ capacity
  off       : a.power = false → a.silent ∧ a.regs = ApuRegs.zero

/-- Every invariant of the machine. `accounted` is R530's "CPU `cycles = frameTotal + frameAcc`". -/
structure State.Ok (s : State) : Prop where
  mem       : s.MemOk
  cart      : s.CartOk
  cpu       : s.cpu.Ok
  timer     : s.timer.Ok
  ppu       : s.ppu.Ok
  apu       : s.apu.Ok s.config.bufferCapacity
  accounted : s.cpu.cycles = s.frameTotal + s.frameAcc

/-! ### The words of the statements -/

/-- `s` after an instruction of `len` bytes and `n` cycles that changes nothing else: PC past its bytes (under the HALT bug
the opcode fetch did not advance PC), `halt_bug` spent, `cycles` grown (R36, R43, R152). -/
def State.passed (s : State) (len n : Nat) : State :=
  { s with
    regs := { s.regs with pc := s.regs.pc + BitVec.ofNat 16 len - (if s.cpu.haltBug then 1 else 0) }
    cpu := { s.cpu with haltBug := false, cycles := s.cpu.cycles + n } }

/-- The address whose byte is at `a`: echo RAM is 0xC000..0xDDFF (R78). -/
def echoed (a : Word) : Word := if regionOf a = .echo then a - 0x2000 else a

/-- Whether a store to `a` may change what a read of `b` gives: the byte itself, and for a store with side effects what
R88's rules let it change. -/
def storeReaches (a b : Word) : Bool :=
  match regionOf a with
  | .rom => regionOf b = .rom || regionOf b = .extRam
  | .unusable => false
  | .io =>
    match ioReg a with
    | .sound _ => b = a || b = 0xFF26
    | .nr52 => 0xFF10 ≤ b.toNat && b.toNat ≤ 0xFF26
    | .lcdc => b = a || b = 0xFF41 || b = 0xFF44 || b = 0xFF0F
    | .stat => b = a || b = 0xFF0F
    | .lyc => b = a || b = 0xFF41 || b = 0xFF0F
    | .ly => b = a || b = 0xFF41 || b = 0xFF0F
    | .dma => b = a || regionOf b = .oam
    | .boot => false
    | .unused => false
    | _ => b = a
  | _ => echoed b = echoed a

/-- The two addresses a push writes (R330). -/
def pushTargets (sp : Word) : List Word := [sp - 1, sp - 2]

/-- The addresses an instruction stores to in state `s`, as its rule gives them; every instruction not named stores to
none. -/
def storesTo (i : Instr) (s : State) : List Word :=
  match i with
  -- R203, R204, R215, R216, R267, R269
  | .ldAtHlB => [s.regs.hl]
  | .ldAtHlC => [s.regs.hl]
  | .ldAtHlD => [s.regs.hl]
  | .ldAtHlE => [s.regs.hl]
  | .ldAtHlH => [s.regs.hl]
  | .ldAtHlL => [s.regs.hl]
  | .ldAtHlA => [s.regs.hl]
  | .ldAtHlD8 _ => [s.regs.hl]
  | .ldAtHlIncA => [s.regs.hl]
  | .ldAtHlDecA => [s.regs.hl]
  | .incAtHl => [s.regs.hl]
  | .decAtHl => [s.regs.hl]
  -- R285 to R299, R303, R305: the (HL) forms
  | .rlcAtHl => [s.regs.hl]
  | .rrcAtHl => [s.regs.hl]
  | .rlAtHl => [s.regs.hl]
  | .rrAtHl => [s.regs.hl]
  | .slaAtHl => [s.regs.hl]
  | .sraAtHl => [s.regs.hl]
  | .swapAtHl => [s.regs.hl]
  | .srlAtHl => [s.regs.hl]
  | .res0AtHl => [s.regs.hl]
  | .res1AtHl => [s.regs.hl]
  | .res2AtHl => [s.regs.hl]
  | .res3AtHl => [s.regs.hl]
  | .res4AtHl => [s.regs.hl]
  | .res5AtHl => [s.regs.hl]
  | .res6AtHl => [s.regs.hl]
  | .res7AtHl => [s.regs.hl]
  | .set0AtHl => [s.regs.hl]
  | .set1AtHl => [s.regs.hl]
  | .set2AtHl => [s.regs.hl]
  | .set3AtHl => [s.regs.hl]
  | .set4AtHl => [s.regs.hl]
  | .set5AtHl => [s.regs.hl]
  | .set6AtHl => [s.regs.hl]
  | .set7AtHl => [s.regs.hl]
  -- R206, R208, R210, R212, R218
  | .ldAtBcA => [s.regs.bc]
  | .ldAtDeA => [s.regs.de]
  | .ldAtA16A nn => [nn]
  | .ldhAtA8A n => [highPage n]
  | .ldAtCA => [highPage s.regs.c]
  | .ldAtA16Sp nn => [nn, nn + 1]
  -- R316, R321, R322
  | .pushBc => pushTargets s.regs.sp
  | .pushDe => pushTargets s.regs.sp
  | .pushHl => pushTargets s.regs.sp
  | .pushAf => pushTargets s.regs.sp
  | .callA16 _ => pushTargets s.regs.sp
  | .rst00 => pushTargets s.regs.sp
  | .rst08 => pushTargets s.regs.sp
  | .rst10 => pushTargets s.regs.sp
  | .rst18 => pushTargets s.regs.sp
  | .rst20 => pushTargets s.regs.sp
  | .rst28 => pushTargets s.regs.sp
  | .rst30 => pushTargets s.regs.sp
  | .rst38 => pushTargets s.regs.sp
  -- R317, when taken
  | .callNzA16 _ => if !s.regs.f.z then pushTargets s.regs.sp else []
  | .callZA16 _ => if s.regs.f.z then pushTargets s.regs.sp else []
  | .callNcA16 _ => if !s.regs.f.c then pushTargets s.regs.sp else []
  | .callCA16 _ => if s.regs.f.c then pushTargets s.regs.sp else []
  -- R349: as the row of the second byte
  | .prefixCb op2 => if op2.toNat % 8 = 6 ∧ ¬ op2.toNat / 64 = 1 then [s.regs.hl] else []
  | _ => []

end Sys2Proof.Machine
end

