-- ==== Sys2Proof/Certificates/Slice0/Obligations.lean ====
section
/-! DEFINITION. The statements: the instructions' forms with their opcodes, the spec's arithmetic, and the obligations. -/

/-! ### The forms of the opcode maps (R165, R166) -/

namespace Sys2Proof.Forms

open Sys2Proof.Machine

/-- The first part of `ldReg`. -/
def ldRegLow : List (Byte × Instr × Reg8 × Reg8) :=
  [(0x40, .ldBB, .b, .b), (0x41, .ldBC, .b, .c), (0x42, .ldBD, .b, .d), (0x43, .ldBE, .b, .e),
   (0x44, .ldBH, .b, .h), (0x45, .ldBL, .b, .l), (0x47, .ldBA, .b, .a), (0x48, .ldCB, .c, .b),
   (0x49, .ldCC, .c, .c), (0x4A, .ldCD, .c, .d), (0x4B, .ldCE, .c, .e), (0x4C, .ldCH, .c, .h),
   (0x4D, .ldCL, .c, .l), (0x4F, .ldCA, .c, .a), (0x50, .ldDB, .d, .b), (0x51, .ldDC, .d, .c),
   (0x52, .ldDD, .d, .d), (0x53, .ldDE, .d, .e), (0x54, .ldDH, .d, .h), (0x55, .ldDL, .d, .l),
   (0x57, .ldDA, .d, .a), (0x58, .ldEB, .e, .b), (0x59, .ldEC, .e, .c), (0x5A, .ldED, .e, .d),
   (0x5B, .ldEE, .e, .e), (0x5C, .ldEH, .e, .h), (0x5D, .ldEL, .e, .l), (0x5F, .ldEA, .e, .a)]

/-- The second part of `ldReg`. -/
def ldRegHigh : List (Byte × Instr × Reg8 × Reg8) :=
  [(0x60, .ldHB, .h, .b), (0x61, .ldHC, .h, .c), (0x62, .ldHD, .h, .d), (0x63, .ldHE, .h, .e),
   (0x64, .ldHH, .h, .h), (0x65, .ldHL, .h, .l), (0x67, .ldHA, .h, .a), (0x68, .ldLB, .l, .b),
   (0x69, .ldLC, .l, .c), (0x6A, .ldLD, .l, .d), (0x6B, .ldLE, .l, .e), (0x6C, .ldLH, .l, .h),
   (0x6D, .ldLL, .l, .l), (0x6F, .ldLA, .l, .a), (0x78, .ldAB, .a, .b), (0x79, .ldAC, .a, .c),
   (0x7A, .ldAD, .a, .d), (0x7B, .ldAE, .a, .e), (0x7C, .ldAH, .a, .h), (0x7D, .ldAL, .a, .l),
   (0x7F, .ldAA, .a, .a)]

/-- R200: opcode, instruction, destination, source. -/
def ldReg : List (Byte × Instr × Reg8 × Reg8) := ldRegLow ++ ldRegHigh

/-- R201: opcode, instruction for each immediate, destination. -/
def ldImm : List (Byte × (Byte → Instr) × Reg8) :=
  [(0x06, .ldBD8, .b), (0x0E, .ldCD8, .c), (0x16, .ldDD8, .d), (0x1E, .ldED8, .e),
   (0x26, .ldHD8, .h), (0x2E, .ldLD8, .l), (0x3E, .ldAD8, .a)]

/-- R202: opcode, instruction, destination. -/
def ldFromHl : List (Byte × Instr × Reg8) :=
  [(0x46, .ldBAtHl, .b), (0x4E, .ldCAtHl, .c), (0x56, .ldDAtHl, .d), (0x5E, .ldEAtHl, .e),
   (0x66, .ldHAtHl, .h), (0x6E, .ldLAtHl, .l), (0x7E, .ldAAtHl, .a)]

/-- R203: opcode, instruction, source. -/
def stToHl : List (Byte × Instr × Reg8) :=
  [(0x70, .ldAtHlB, .b), (0x71, .ldAtHlC, .c), (0x72, .ldAtHlD, .d), (0x73, .ldAtHlE, .e),
   (0x74, .ldAtHlH, .h), (0x75, .ldAtHlL, .l), (0x77, .ldAtHlA, .a)]

/-- R217: opcode, instruction for each immediate, destination. -/
def ldWord : List (Byte × (Word → Instr) × Reg16) :=
  [(0x01, .ldBcD16, .bc), (0x11, .ldDeD16, .de), (0x21, .ldHlD16, .hl), (0x31, .ldSpD16, .sp)]

/-- R242, R245, R248, R251: opcode, instruction, operation, source. -/
def arithReg : List (Byte × Instr × AluOp × Reg8) :=
  [(0x80, .addAB, .add, .b), (0x81, .addAC, .add, .c), (0x82, .addAD, .add, .d), (0x83, .addAE, .add, .e),
   (0x84, .addAH, .add, .h), (0x85, .addAL, .add, .l), (0x87, .addAA, .add, .a), (0x88, .adcAB, .adc, .b),
   (0x89, .adcAC, .adc, .c), (0x8A, .adcAD, .adc, .d), (0x8B, .adcAE, .adc, .e), (0x8C, .adcAH, .adc, .h),
   (0x8D, .adcAL, .adc, .l), (0x8F, .adcAA, .adc, .a), (0x90, .subB, .sub, .b), (0x91, .subC, .sub, .c),
   (0x92, .subD, .sub, .d), (0x93, .subE, .sub, .e), (0x94, .subH, .sub, .h), (0x95, .subL, .sub, .l),
   (0x97, .subA, .sub, .a), (0x98, .sbcAB, .sbc, .b), (0x99, .sbcAC, .sbc, .c), (0x9A, .sbcAD, .sbc, .d),
   (0x9B, .sbcAE, .sbc, .e), (0x9C, .sbcAH, .sbc, .h), (0x9D, .sbcAL, .sbc, .l), (0x9F, .sbcAA, .sbc, .a)]

/-- R243, R246, R249, R252: opcode, instruction, operation. -/
def arithMem : List (Byte × Instr × AluOp) :=
  [(0x86, .addAAtHl, .add), (0x8E, .adcAAtHl, .adc), (0x96, .subAtHl, .sub), (0x9E, .sbcAAtHl, .sbc)]

/-- R244, R247, R250, R253: opcode, instruction for each immediate, operation. -/
def arithImm : List (Byte × (Byte → Instr) × AluOp) :=
  [(0xC6, .addAD8, .add), (0xCE, .adcAD8, .adc), (0xD6, .subD8, .sub), (0xDE, .sbcAD8, .sbc)]

/-- R254, R257, R260, R263: opcode, instruction, operation, source. -/
def logicReg : List (Byte × Instr × AluOp × Reg8) :=
  [(0xA0, .andB, .and, .b), (0xA1, .andC, .and, .c), (0xA2, .andD, .and, .d), (0xA3, .andE, .and, .e),
   (0xA4, .andH, .and, .h), (0xA5, .andL, .and, .l), (0xA7, .andA, .and, .a), (0xA8, .xorB, .xor, .b),
   (0xA9, .xorC, .xor, .c), (0xAA, .xorD, .xor, .d), (0xAB, .xorE, .xor, .e), (0xAC, .xorH, .xor, .h),
   (0xAD, .xorL, .xor, .l), (0xAF, .xorA, .xor, .a), (0xB0, .orB, .or, .b), (0xB1, .orC, .or, .c),
   (0xB2, .orD, .or, .d), (0xB3, .orE, .or, .e), (0xB4, .orH, .or, .h), (0xB5, .orL, .or, .l),
   (0xB7, .orA, .or, .a), (0xB8, .cpB, .cp, .b), (0xB9, .cpC, .cp, .c), (0xBA, .cpD, .cp, .d),
   (0xBB, .cpE, .cp, .e), (0xBC, .cpH, .cp, .h), (0xBD, .cpL, .cp, .l), (0xBF, .cpA, .cp, .a)]

/-- R255, R258, R261, R264: opcode, instruction, operation. -/
def logicMem : List (Byte × Instr × AluOp) :=
  [(0xA6, .andAtHl, .and), (0xAE, .xorAtHl, .xor), (0xB6, .orAtHl, .or), (0xBE, .cpAtHl, .cp)]

/-- R256, R259, R262, R265: opcode, instruction for each immediate, operation. -/
def logicImm : List (Byte × (Byte → Instr) × AluOp) :=
  [(0xE6, .andD8, .and), (0xEE, .xorD8, .xor), (0xF6, .orD8, .or), (0xFE, .cpD8, .cp)]

/-- R266: opcode, instruction, register. -/
def incReg : List (Byte × Instr × Reg8) :=
  [(0x04, .incB, .b), (0x0C, .incC, .c), (0x14, .incD, .d), (0x1C, .incE, .e),
   (0x24, .incH, .h), (0x2C, .incL, .l), (0x3C, .incA, .a)]

/-- R268: opcode, instruction, register. -/
def decReg : List (Byte × Instr × Reg8) :=
  [(0x05, .decB, .b), (0x0D, .decC, .c), (0x15, .decD, .d), (0x1D, .decE, .e),
   (0x25, .decH, .h), (0x2D, .decL, .l), (0x3D, .decA, .a)]

/-- R270: opcode, instruction, operand. -/
def addHl : List (Byte × Instr × Reg16) :=
  [(0x09, .addHlBc, .bc), (0x19, .addHlDe, .de), (0x29, .addHlHl, .hl), (0x39, .addHlSp, .sp)]

/-- R271: opcode, instruction, operand. -/
def incPair : List (Byte × Instr × Reg16) :=
  [(0x03, .incBc, .bc), (0x13, .incDe, .de), (0x23, .incHl, .hl), (0x33, .incSp, .sp)]

/-- R272: opcode, instruction, operand. -/
def decPair : List (Byte × Instr × Reg16) :=
  [(0x0B, .decBc, .bc), (0x1B, .decDe, .de), (0x2B, .decHl, .hl), (0x3B, .decSp, .sp)]

/-- R280 to R283: opcode, instruction, operation. -/
def rotA : List (Byte × Instr × RotOp) :=
  [(0x07, .rlca, .rlc), (0x0F, .rrca, .rrc), (0x17, .rla, .rl), (0x1F, .rra, .rr)]

/-- The first part of `rotReg`. -/
def rotRegLow : List (Byte × Instr × RotOp × Reg8) :=
  [(0x00, .rlcB, .rlc, .b), (0x01, .rlcC, .rlc, .c), (0x02, .rlcD, .rlc, .d), (0x03, .rlcE, .rlc, .e),
   (0x04, .rlcH, .rlc, .h), (0x05, .rlcL, .rlc, .l), (0x07, .rlcA, .rlc, .a), (0x08, .rrcB, .rrc, .b),
   (0x09, .rrcC, .rrc, .c), (0x0A, .rrcD, .rrc, .d), (0x0B, .rrcE, .rrc, .e), (0x0C, .rrcH, .rrc, .h),
   (0x0D, .rrcL, .rrc, .l), (0x0F, .rrcA, .rrc, .a), (0x10, .rlB, .rl, .b), (0x11, .rlC, .rl, .c),
   (0x12, .rlD, .rl, .d), (0x13, .rlE, .rl, .e), (0x14, .rlH, .rl, .h), (0x15, .rlL, .rl, .l),
   (0x17, .rlA, .rl, .a), (0x18, .rrB, .rr, .b), (0x19, .rrC, .rr, .c), (0x1A, .rrD, .rr, .d),
   (0x1B, .rrE, .rr, .e), (0x1C, .rrH, .rr, .h), (0x1D, .rrL, .rr, .l), (0x1F, .rrA, .rr, .a)]

/-- The second part of `rotReg`. -/
def rotRegHigh : List (Byte × Instr × RotOp × Reg8) :=
  [(0x20, .slaB, .sla, .b), (0x21, .slaC, .sla, .c), (0x22, .slaD, .sla, .d), (0x23, .slaE, .sla, .e),
   (0x24, .slaH, .sla, .h), (0x25, .slaL, .sla, .l), (0x27, .slaA, .sla, .a), (0x28, .sraB, .sra, .b),
   (0x29, .sraC, .sra, .c), (0x2A, .sraD, .sra, .d), (0x2B, .sraE, .sra, .e), (0x2C, .sraH, .sra, .h),
   (0x2D, .sraL, .sra, .l), (0x2F, .sraA, .sra, .a), (0x30, .swapB, .swap, .b), (0x31, .swapC, .swap, .c),
   (0x32, .swapD, .swap, .d), (0x33, .swapE, .swap, .e), (0x34, .swapH, .swap, .h), (0x35, .swapL, .swap, .l),
   (0x37, .swapA, .swap, .a), (0x38, .srlB, .srl, .b), (0x39, .srlC, .srl, .c), (0x3A, .srlD, .srl, .d),
   (0x3B, .srlE, .srl, .e), (0x3C, .srlH, .srl, .h), (0x3D, .srlL, .srl, .l), (0x3F, .srlA, .srl, .a)]

/-- R284 to R298: second byte, instruction, operation, register. -/
def rotReg : List (Byte × Instr × RotOp × Reg8) := rotRegLow ++ rotRegHigh

/-- R285 to R299: second byte, instruction, operation. -/
def rotMem : List (Byte × Instr × RotOp) :=
  [(0x06, .rlcAtHl, .rlc), (0x0E, .rrcAtHl, .rrc), (0x16, .rlAtHl, .rl), (0x1E, .rrAtHl, .rr),
   (0x26, .slaAtHl, .sla), (0x2E, .sraAtHl, .sra), (0x36, .swapAtHl, .swap), (0x3E, .srlAtHl, .srl)]

/-- The first part of `bitReg`. -/
def bitRegLow : List (Byte × Instr × Nat × Reg8) :=
  [(0x40, .bit0B, 0, .b), (0x41, .bit0C, 0, .c), (0x42, .bit0D, 0, .d), (0x43, .bit0E, 0, .e),
   (0x44, .bit0H, 0, .h), (0x45, .bit0L, 0, .l), (0x47, .bit0A, 0, .a), (0x48, .bit1B, 1, .b),
   (0x49, .bit1C, 1, .c), (0x4A, .bit1D, 1, .d), (0x4B, .bit1E, 1, .e), (0x4C, .bit1H, 1, .h),
   (0x4D, .bit1L, 1, .l), (0x4F, .bit1A, 1, .a), (0x50, .bit2B, 2, .b), (0x51, .bit2C, 2, .c),
   (0x52, .bit2D, 2, .d), (0x53, .bit2E, 2, .e), (0x54, .bit2H, 2, .h), (0x55, .bit2L, 2, .l),
   (0x57, .bit2A, 2, .a), (0x58, .bit3B, 3, .b), (0x59, .bit3C, 3, .c), (0x5A, .bit3D, 3, .d),
   (0x5B, .bit3E, 3, .e), (0x5C, .bit3H, 3, .h), (0x5D, .bit3L, 3, .l), (0x5F, .bit3A, 3, .a)]

/-- The second part of `bitReg`. -/
def bitRegHigh : List (Byte × Instr × Nat × Reg8) :=
  [(0x60, .bit4B, 4, .b), (0x61, .bit4C, 4, .c), (0x62, .bit4D, 4, .d), (0x63, .bit4E, 4, .e),
   (0x64, .bit4H, 4, .h), (0x65, .bit4L, 4, .l), (0x67, .bit4A, 4, .a), (0x68, .bit5B, 5, .b),
   (0x69, .bit5C, 5, .c), (0x6A, .bit5D, 5, .d), (0x6B, .bit5E, 5, .e), (0x6C, .bit5H, 5, .h),
   (0x6D, .bit5L, 5, .l), (0x6F, .bit5A, 5, .a), (0x70, .bit6B, 6, .b), (0x71, .bit6C, 6, .c),
   (0x72, .bit6D, 6, .d), (0x73, .bit6E, 6, .e), (0x74, .bit6H, 6, .h), (0x75, .bit6L, 6, .l),
   (0x77, .bit6A, 6, .a), (0x78, .bit7B, 7, .b), (0x79, .bit7C, 7, .c), (0x7A, .bit7D, 7, .d),
   (0x7B, .bit7E, 7, .e), (0x7C, .bit7H, 7, .h), (0x7D, .bit7L, 7, .l), (0x7F, .bit7A, 7, .a)]

/-- R300: second byte, instruction, bit, register. -/
def bitReg : List (Byte × Instr × Nat × Reg8) := bitRegLow ++ bitRegHigh

/-- The first part of `resReg`. -/
def resRegLow : List (Byte × Instr × Nat × Reg8) :=
  [(0x80, .res0B, 0, .b), (0x81, .res0C, 0, .c), (0x82, .res0D, 0, .d), (0x83, .res0E, 0, .e),
   (0x84, .res0H, 0, .h), (0x85, .res0L, 0, .l), (0x87, .res0A, 0, .a), (0x88, .res1B, 1, .b),
   (0x89, .res1C, 1, .c), (0x8A, .res1D, 1, .d), (0x8B, .res1E, 1, .e), (0x8C, .res1H, 1, .h),
   (0x8D, .res1L, 1, .l), (0x8F, .res1A, 1, .a), (0x90, .res2B, 2, .b), (0x91, .res2C, 2, .c),
   (0x92, .res2D, 2, .d), (0x93, .res2E, 2, .e), (0x94, .res2H, 2, .h), (0x95, .res2L, 2, .l),
   (0x97, .res2A, 2, .a), (0x98, .res3B, 3, .b), (0x99, .res3C, 3, .c), (0x9A, .res3D, 3, .d),
   (0x9B, .res3E, 3, .e), (0x9C, .res3H, 3, .h), (0x9D, .res3L, 3, .l), (0x9F, .res3A, 3, .a)]

/-- The second part of `resReg`. -/
def resRegHigh : List (Byte × Instr × Nat × Reg8) :=
  [(0xA0, .res4B, 4, .b), (0xA1, .res4C, 4, .c), (0xA2, .res4D, 4, .d), (0xA3, .res4E, 4, .e),
   (0xA4, .res4H, 4, .h), (0xA5, .res4L, 4, .l), (0xA7, .res4A, 4, .a), (0xA8, .res5B, 5, .b),
   (0xA9, .res5C, 5, .c), (0xAA, .res5D, 5, .d), (0xAB, .res5E, 5, .e), (0xAC, .res5H, 5, .h),
   (0xAD, .res5L, 5, .l), (0xAF, .res5A, 5, .a), (0xB0, .res6B, 6, .b), (0xB1, .res6C, 6, .c),
   (0xB2, .res6D, 6, .d), (0xB3, .res6E, 6, .e), (0xB4, .res6H, 6, .h), (0xB5, .res6L, 6, .l),
   (0xB7, .res6A, 6, .a), (0xB8, .res7B, 7, .b), (0xB9, .res7C, 7, .c), (0xBA, .res7D, 7, .d),
   (0xBB, .res7E, 7, .e), (0xBC, .res7H, 7, .h), (0xBD, .res7L, 7, .l), (0xBF, .res7A, 7, .a)]

/-- R302: second byte, instruction, bit, register. -/
def resReg : List (Byte × Instr × Nat × Reg8) := resRegLow ++ resRegHigh

/-- The first part of `setReg`. -/
def setRegLow : List (Byte × Instr × Nat × Reg8) :=
  [(0xC0, .set0B, 0, .b), (0xC1, .set0C, 0, .c), (0xC2, .set0D, 0, .d), (0xC3, .set0E, 0, .e),
   (0xC4, .set0H, 0, .h), (0xC5, .set0L, 0, .l), (0xC7, .set0A, 0, .a), (0xC8, .set1B, 1, .b),
   (0xC9, .set1C, 1, .c), (0xCA, .set1D, 1, .d), (0xCB, .set1E, 1, .e), (0xCC, .set1H, 1, .h),
   (0xCD, .set1L, 1, .l), (0xCF, .set1A, 1, .a), (0xD0, .set2B, 2, .b), (0xD1, .set2C, 2, .c),
   (0xD2, .set2D, 2, .d), (0xD3, .set2E, 2, .e), (0xD4, .set2H, 2, .h), (0xD5, .set2L, 2, .l),
   (0xD7, .set2A, 2, .a), (0xD8, .set3B, 3, .b), (0xD9, .set3C, 3, .c), (0xDA, .set3D, 3, .d),
   (0xDB, .set3E, 3, .e), (0xDC, .set3H, 3, .h), (0xDD, .set3L, 3, .l), (0xDF, .set3A, 3, .a)]

/-- The second part of `setReg`. -/
def setRegHigh : List (Byte × Instr × Nat × Reg8) :=
  [(0xE0, .set4B, 4, .b), (0xE1, .set4C, 4, .c), (0xE2, .set4D, 4, .d), (0xE3, .set4E, 4, .e),
   (0xE4, .set4H, 4, .h), (0xE5, .set4L, 4, .l), (0xE7, .set4A, 4, .a), (0xE8, .set5B, 5, .b),
   (0xE9, .set5C, 5, .c), (0xEA, .set5D, 5, .d), (0xEB, .set5E, 5, .e), (0xEC, .set5H, 5, .h),
   (0xED, .set5L, 5, .l), (0xEF, .set5A, 5, .a), (0xF0, .set6B, 6, .b), (0xF1, .set6C, 6, .c),
   (0xF2, .set6D, 6, .d), (0xF3, .set6E, 6, .e), (0xF4, .set6H, 6, .h), (0xF5, .set6L, 6, .l),
   (0xF7, .set6A, 6, .a), (0xF8, .set7B, 7, .b), (0xF9, .set7C, 7, .c), (0xFA, .set7D, 7, .d),
   (0xFB, .set7E, 7, .e), (0xFC, .set7H, 7, .h), (0xFD, .set7L, 7, .l), (0xFF, .set7A, 7, .a)]

/-- R304: second byte, instruction, bit, register. -/
def setReg : List (Byte × Instr × Nat × Reg8) := setRegLow ++ setRegHigh

/-- R301: second byte, instruction, bit. -/
def bitMem : List (Byte × Instr × Nat) :=
  [(0x46, .bit0AtHl, 0), (0x4E, .bit1AtHl, 1), (0x56, .bit2AtHl, 2), (0x5E, .bit3AtHl, 3),
   (0x66, .bit4AtHl, 4), (0x6E, .bit5AtHl, 5), (0x76, .bit6AtHl, 6), (0x7E, .bit7AtHl, 7)]

/-- R303: second byte, instruction, bit. -/
def resMem : List (Byte × Instr × Nat) :=
  [(0x86, .res0AtHl, 0), (0x8E, .res1AtHl, 1), (0x96, .res2AtHl, 2), (0x9E, .res3AtHl, 3),
   (0xA6, .res4AtHl, 4), (0xAE, .res5AtHl, 5), (0xB6, .res6AtHl, 6), (0xBE, .res7AtHl, 7)]

/-- R305: second byte, instruction, bit. -/
def setMem : List (Byte × Instr × Nat) :=
  [(0xC6, .set0AtHl, 0), (0xCE, .set1AtHl, 1), (0xD6, .set2AtHl, 2), (0xDE, .set3AtHl, 3),
   (0xE6, .set4AtHl, 4), (0xEE, .set5AtHl, 5), (0xF6, .set6AtHl, 6), (0xFE, .set7AtHl, 7)]

/-- R312: opcode, instruction for each operand, condition. -/
def jpCond : List (Byte × (Word → Instr) × Cond) :=
  [(0xC2, .jpNzA16, .nz), (0xCA, .jpZA16, .z), (0xD2, .jpNcA16, .nc), (0xDA, .jpCA16, .c)]

/-- R315: opcode, instruction for each operand, condition. -/
def jrCond : List (Byte × (Byte → Instr) × Cond) :=
  [(0x20, .jrNzE8, .nz), (0x28, .jrZE8, .z), (0x30, .jrNcE8, .nc), (0x38, .jrCE8, .c)]

/-- R317: opcode, instruction for each operand, condition. -/
def callCond : List (Byte × (Word → Instr) × Cond) :=
  [(0xC4, .callNzA16, .nz), (0xCC, .callZA16, .z), (0xD4, .callNcA16, .nc), (0xDC, .callCA16, .c)]

/-- R319: opcode, instruction, condition. -/
def retCond : List (Byte × Instr × Cond) :=
  [(0xC0, .retNz, .nz), (0xC8, .retZ, .z), (0xD0, .retNc, .nc), (0xD8, .retC, .c)]

/-- R321: opcode, instruction, target. -/
def rst : List (Byte × Instr × Word) :=
  [(0xC7, .rst00, 0x0000), (0xCF, .rst08, 0x0008), (0xD7, .rst10, 0x0010), (0xDF, .rst18, 0x0018),
   (0xE7, .rst20, 0x0020), (0xEF, .rst28, 0x0028), (0xF7, .rst30, 0x0030), (0xFF, .rst38, 0x0038)]

/-- R322: opcode, instruction, operand. -/
def pushes : List (Byte × Instr × StackReg) :=
  [(0xC5, .pushBc, .bc), (0xD5, .pushDe, .de), (0xE5, .pushHl, .hl), (0xF5, .pushAf, .af)]

/-- R323: opcode, instruction, operand. -/
def pops : List (Byte × Instr × StackReg) :=
  [(0xC1, .popBc, .bc), (0xD1, .popDe, .de), (0xE1, .popHl, .hl), (0xF1, .popAf, .af)]

/-- R163, R350: opcode, instruction. -/
def illegal : List (Byte × Instr) :=
  [(0xD3, .illegalD3), (0xDB, .illegalDB), (0xDD, .illegalDD), (0xE3, .illegalE3), (0xE4, .illegalE4), (0xEB, .illegalEB),
   (0xEC, .illegalEC), (0xED, .illegalED), (0xF4, .illegalF4), (0xFC, .illegalFC), (0xFD, .illegalFD)]

end Sys2Proof.Forms

/-! ### Results and flags, in the spec's own arithmetic -/

namespace Sys2Proof.Claims

open Sys2Proof.Machine

/-- A flag as the number 0 or 1 (R12). -/
def bit (b : Bool) : Nat := if b then 1 else 0

/-- The eight results of R242 to R265 on unbounded numbers, reduced modulo 256 (R241). -/
def aluValue (op : AluOp) (a n c : Nat) : Nat :=
  match op with
  | .add => (a + n) % 256
  | .adc => (a + n + c) % 256
  | .sub => (a + 256 - n) % 256
  | .sbc => (a + 512 - n - c) % 256
  | .and => a &&& n
  | .xor => a ^^^ n
  | .or => a ||| n
  | .cp => (a + 256 - n) % 256

/-- The half-carry of R242 to R265. -/
def aluHalf (op : AluOp) (a n c : Nat) : Bool :=
  match op with
  | .add => 0xF < a % 16 + n % 16
  | .adc => 0xF < a % 16 + n % 16 + c
  | .sub => a % 16 < n % 16
  | .sbc => a % 16 < n % 16 + c
  | .and => true
  | .xor => false
  | .or => false
  | .cp => a % 16 < n % 16

/-- The carry of R242 to R265. -/
def aluCarry (op : AluOp) (a n c : Nat) : Bool :=
  match op with
  | .add => 0xFF < a + n
  | .adc => 0xFF < a + n + c
  | .sub => a < n
  | .sbc => a < n + c
  | .and => false
  | .xor => false
  | .or => false
  | .cp => a < n

/-- The operations that set N (R248, R251, R263). -/
def aluSubtracts (op : AluOp) : Bool := op = .sub || op = .sbc || op = .cp

/-- `t` is `s`, past an instruction of `len` bytes and `n` cycles, with `op` done on A and `operand`: A holds the result (CP
keeps A) and F the four flags; nothing else differs (R242 to R265). -/
def AluDone (op : AluOp) (operand : Byte) (len n : Nat) (s : State) (r : Result State) : Prop :=
  ∃ (v : Byte) (f : Flags),
    r = .next (((s.passed len n).setReg8 .a v).setFlags f) ∧
    v.toNat = (if op = .cp then s.regs.a.toNat
      else aluValue op s.regs.a.toNat operand.toNat (bit s.regs.f.c)) ∧
    f.z = decide (aluValue op s.regs.a.toNat operand.toNat (bit s.regs.f.c) = 0) ∧
    f.n = aluSubtracts op ∧
    f.h = aluHalf op s.regs.a.toNat operand.toNat (bit s.regs.f.c) ∧
    f.c = aluCarry op s.regs.a.toNat operand.toNat (bit s.regs.f.c)

/-- R266: INC's result and flags on `old`, C kept. -/
def IncRule (old v : Byte) (f g : Flags) : Prop :=
  v.toNat = (old.toNat + 1) % 256 ∧
    g = { z := decide (v.toNat = 0), n := false, h := decide (old.toNat % 16 = 0xF), c := f.c }

/-- R268: DEC's result and flags on `old`, C kept. -/
def DecRule (old v : Byte) (f g : Flags) : Prop :=
  v.toNat = (old.toNat + 255) % 256 ∧
    g = { z := decide (v.toNat = 0), n := true, h := decide (old.toNat % 16 = 0), c := f.c }

/-- R220, R273: SP plus a signed offset, and the flags of the unsigned low-byte sum. -/
def SpOffsetRule (sp v : Word) (u : Byte) (g : Flags) : Prop :=
  (v.toNat : Int) = ((sp.toNat : Int) + u.toInt) % 65536 ∧
    g = { z := false, n := false, h := decide (0xF < sp.toNat % 16 + u.toNat % 16),
          c := decide (0xFF < sp.toNat % 256 + u.toNat) }

/-- The eight results of R284 to R299 on numbers; `cin` is the incoming carry. -/
def rotValue (op : RotOp) (v cin : Nat) : Nat :=
  match op with
  | .rlc => (2 * v + v / 128) % 256
  | .rrc => v / 2 + 128 * (v % 2)
  | .rl => (2 * v + cin) % 256
  | .rr => v / 2 + 128 * cin
  | .sla => 2 * v % 256
  | .sra => v / 2 + 128 * (v / 128)
  | .swap => v % 16 * 16 + v / 16
  | .srl => v / 2

/-- The bit shifted out (R284 to R299): bit 7 of a left move, bit 0 of a right one, 0 for SWAP. -/
def rotOut (op : RotOp) (v : Nat) : Bool :=
  match op with
  | .rlc => 128 ≤ v
  | .rl => 128 ≤ v
  | .sla => 128 ≤ v
  | .swap => false
  | .rrc => v % 2 = 1
  | .rr => v % 2 = 1
  | .sra => v % 2 = 1
  | .srl => v % 2 = 1

/-- R284 to R299: result and flags, Z per result. -/
def RotRule (op : RotOp) (old v : Byte) (f g : Flags) : Prop :=
  v.toNat = rotValue op old.toNat (bit f.c) ∧
    g = { z := decide (v.toNat = 0), n := false, h := false, c := rotOut op old.toNat }

/-- R302, R304: `v` is `old` with bit `b` set to `x`. -/
def BitPut (b : Nat) (x : Bool) (old v : Byte) : Prop :=
  ∀ i, i < 8 → v.getLsbD i = if i = b then x else old.getLsbD i

/-- R300: BIT's flags, C kept. -/
def bitRule (b : Nat) (v : Byte) (f : Flags) : Flags :=
  { z := decide (v.toNat / 2 ^ b % 2 = 0), n := false, h := true, c := f.c }

/-- R345: DAA's `w` and `cout`, on numbers. -/
def daaRule (borrowSetsC : Bool) (a : Nat) (f : Flags) : Nat × Bool :=
  if f.n then
    let corr := (if f.h then 0x06 else 0) + (if f.c then 0x60 else 0)
    ((a + 256 - corr) % 256, f.c || (borrowSetsC && decide (a < corr)))
  else
    let high := f.c || decide (0x99 < a)
    let low := f.h || decide (0x09 < a % 16)
    ((a + (if low then 0x06 else 0) + (if high then 0x60 else 0)) % 256, high)

/-- R330: `s` after `Push16(v)`: the high byte at SP − 1, then the low byte at SP − 2, SP down by two. -/
def pushed (s : State) (v : Word) : State :=
  ((s.setSp (s.regs.sp - 2)).write (s.regs.sp - 1) (BitVec.ofNat 8 (v.toNat / 256))).write (s.regs.sp - 2)
    (BitVec.ofNat 8 (v.toNat % 256))

/-- R331: what `Pop16()` returns in `s`: the byte at SP low, the byte at SP + 1 high. -/
def poppedWord (s : State) : Word :=
  BitVec.ofNat 16 (256 * (s.read (s.regs.sp + 1)).toNat + (s.read s.regs.sp).toNat)

/-- R314: the target of a relative jump from `next`, the address after the instruction. -/
def relTarget (next : Word) (e : Byte) : Word := BitVec.ofInt 16 ((next.toNat : Int) + e.toInt)

/-- R400: the next step executes an instruction: no fault, no interrupt dispatched, not halted. -/
def Runs (s : State) : Prop :=
  s.cpu.fault = none ∧ (s.cpu.ime = false ∨ s.irq.pending = 0) ∧ s.cpu.halted = false

/-- R410: the bit of IF a source requests. -/
def requested (s : State) (k : IrqSource) : Bool := s.irq.iflag.getLsbD k.index

/-- The addresses 0xFEA0..0xFEFF, 0xFF50 and those R48 lists. -/
def Silent (a : Word) : Prop :=
  (0xFEA0 ≤ a.toNat ∧ a.toNat ≤ 0xFEFF) ∨ a.toNat = 0xFF03 ∨ (0xFF08 ≤ a.toNat ∧ a.toNat ≤ 0xFF0E) ∨
    a.toNat = 0xFF15 ∨ a.toNat = 0xFF1F ∨ (0xFF27 ≤ a.toNat ∧ a.toNat ≤ 0xFF2F) ∨
    (0xFF4C ≤ a.toNat ∧ a.toNat ≤ 0xFF7F)

/-! #### Devices and cartridge, in the rules' own arithmetic -/

/-- R443: TIMA after `k` increments, and whether one of them overflowed. The first overflow reloads TMA, and every later
one comes after 256 − TMA more increments. -/
def timaAfter (tima tma k : Nat) : Nat × Bool :=
  if tima + k ≤ 255 then (tima + k, false) else (tma + (tima + k - 256) % (256 - tma), true)

/-- R110, R111, R114, R119, R127: the ROM bank a controller maps in the low or the high window, before R105 reduces it. -/
def romBank (m : Mbc) (high : Bool) : Nat :=
  match m with
  | .noMbc => bit high
  | .mbc1 r => if high then 32 * r.secondary.toNat + r.bankLow.toNat else if r.mode then 32 * r.secondary.toNat else 0
  | .mbc2 r => if high then r.romBank.toNat else 0
  | .mbc3 r => if high then r.romBank.toNat else 0
  | .mbc5 r => if high then r.romBank.toNat else 0

/-- R106 to R109, R113, R118 to R122, R125, R126: the controller after a write of `v` to ROM address `a`. -/
def mbcAfter (m : Mbc) (a : Nat) (v : Byte) : Mbc :=
  let enable := decide (v.toNat % 16 = 10)
  match m with
  | .noMbc => .noMbc
  | .mbc1 r => .mbc1
    (if a < 0x2000 then { r with ramEnable := enable }
     else if a < 0x4000 then { r with bankLow := BitVec.ofNat 5 (if v.toNat % 32 = 0 then 1 else v.toNat % 32) }
     else if a < 0x6000 then { r with secondary := BitVec.ofNat 2 (v.toNat % 4) }
     else { r with mode := decide (v.toNat % 2 = 1) })
  | .mbc2 r => .mbc2
    (if 0x4000 ≤ a then r
     else if a / 256 % 2 = 0 then { r with ramEnable := enable }
     else { r with romBank := BitVec.ofNat 4 (if v.toNat % 16 = 0 then 1 else v.toNat % 16) })
  | .mbc3 r => .mbc3
    (if a < 0x2000 then { r with ramEnable := enable }
     else if a < 0x4000 then { r with romBank := BitVec.ofNat 7 (if v.toNat % 128 = 0 then 1 else v.toNat % 128) }
     else if a < 0x6000 then { r with select := v }
     else { r with latched := if r.latchPrev = 0x00 ∧ v = 0x01 then r.live else r.latched, latchPrev := v })
  | .mbc5 r => .mbc5
    (if a < 0x2000 then { r with ramEnable := enable }
     else if a < 0x3000 then { r with romBank := BitVec.ofNat 9 (r.romBank.toNat / 256 * 256 + v.toNat) }
     else if a < 0x4000 then { r with romBank := BitVec.ofNat 9 (v.toNat % 2 * 256 + r.romBank.toNat % 256) }
     else if a < 0x6000 then { r with ramBank := BitVec.ofNat 4 (v.toNat % 16) }
     else r)

/-- R112, R123, R128: the RAM bank an enabled controller selects, before R105 reduces it; none where it selects none. -/
def ramBank (m : Mbc) : Option Nat :=
  match m with
  | .noMbc => none
  | .mbc1 r => if r.ramEnable then some (if r.mode then r.secondary.toNat else 0) else none
  | .mbc2 _ => none
  | .mbc3 r => if r.ramEnable ∧ r.select.toNat < 4 then some r.select.toNat else none
  | .mbc5 r => if r.ramEnable then some r.ramBank.toNat else none

/-- `s` after the write `w` of `v` at offset `o` of the external RAM: that byte is `v`, every other byte of it is kept, and
nothing outside it changes. -/
def RamStored (s : State) (k : Cart) (o : Nat) (v : Byte) (w : State) : Prop :=
  ∃ m : Memory, w = { s with cart := some { k with extRam := m } } ∧
    ∀ j, m.read j = if j = o then v else k.extRam.read j

/-- R121: the RTC register of a select value 8 to 12, as the number a read gives. -/
def rtcNumber (t : Rtc) (select : Nat) : Nat :=
  if select = 8 then t.seconds.toNat
  else if select = 9 then t.minutes.toNat
  else if select = 10 then t.hours.toNat
  else if select = 11 then t.daysLow.toNat
  else bit t.dayBit8 + 64 * bit t.halt + 128 * bit t.dayCarry

/-- R121: the RTC with `v`, masked to the field, in the register of a select value 8 to 12. -/
def rtcStored (t : Rtc) (select v : Nat) : Rtc :=
  if select = 8 then { t with seconds := BitVec.ofNat 6 (v % 64) }
  else if select = 9 then { t with minutes := BitVec.ofNat 6 (v % 64) }
  else if select = 10 then { t with hours := BitVec.ofNat 5 (v % 32) }
  else if select = 11 then { t with daysLow := BitVec.ofNat 8 v }
  else { t with
    dayBit8 := decide (v % 2 = 1), halt := decide (v / 64 % 2 = 1), dayCarry := decide (v / 128 % 2 = 1) }

/-- R465: `statLine'`: the level of the STAT line, 0 while the LCD is off. -/
def statLevel (p : Ppu) : Prop :=
  p.lcdc.getLsbD 7 = true ∧
    ((p.statEnable.getLsbD 0 = true ∧ p.mode = .hblank) ∨ (p.statEnable.getLsbD 1 = true ∧ p.mode = .vblank) ∨
      (p.statEnable.getLsbD 2 = true ∧ p.mode = .oamScan) ∨ (p.statEnable.getLsbD 3 = true ∧ p.line = p.lyc.toNat))

/-- R465: `t` is `s` with the STAT line evaluated: the level is stored, a rise sets IF bit 1, nothing else changes. -/
def StatEvaluated (s t : State) : Prop :=
  (t.ppu.statLine = true ↔ statLevel s.ppu) ∧
    t = { s with
      ppu := { s.ppu with statLine := t.ppu.statLine }
      irq := if s.ppu.statLine = false ∧ t.ppu.statLine = true then { s.irq with iflag := s.irq.iflag ||| 0b00010 }
        else s.irq }

/-- R461: the mode and line that follow a mode of a line. -/
def nextMode (m : PpuMode) (line : Nat) : PpuMode × Nat :=
  match m with
  | .oamScan => (.drawing, line)
  | .drawing => (.hblank, line)
  | .hblank => (if line + 1 = 144 then .vblank else .oamScan, line + 1)
  | .vblank => if line + 1 = 154 then (.oamScan, 0) else (.vblank, line + 1)

/-- R47: the sound registers, with their addresses and the bits that read as 1. -/
def soundRegs : List (Nat × SoundReg × Byte) :=
  [(0xFF10, .nr10, 0x80), (0xFF11, .nr11, 0x3F), (0xFF12, .nr12, 0x00), (0xFF13, .nr13, 0xFF), (0xFF14, .nr14, 0xBF),
   (0xFF16, .nr21, 0x3F), (0xFF17, .nr22, 0x00), (0xFF18, .nr23, 0xFF), (0xFF19, .nr24, 0xBF),
   (0xFF1A, .nr30, 0x7F), (0xFF1B, .nr31, 0xFF), (0xFF1C, .nr32, 0x9F), (0xFF1D, .nr33, 0xFF), (0xFF1E, .nr34, 0xBF),
   (0xFF20, .nr41, 0xFF), (0xFF21, .nr42, 0x00), (0xFF22, .nr43, 0x00), (0xFF23, .nr44, 0xBF),
   (0xFF24, .nr50, 0x00), (0xFF25, .nr51, 0x00)]

/-- R487, R488: a channel's frequency, `NRx4[2:0] << 8 | NRx3`. -/
def freq (nrx3 nrx4 : Byte) : Nat := 256 * (nrx4.toNat % 8) + nrx3.toNat

/-- R486: what a trigger of a pulse channel leaves: `nrx2` gives the DAC, the volume and the envelope timer, `f` the
period; `swept` says that the sweep's overflow test disabled the channel. -/
def PulseTriggered (c t : Pulse) (nrx2 : Byte) (f : Nat) (swept : Bool) : Prop :=
  t.enabled = (decide (8 ≤ nrx2.toNat) && !swept) ∧ t.length = (if c.length = 0 then 64 else c.length) ∧
    t.freqTimer = (2048 - f) * 4 ∧ t.dutyPos = c.dutyPos ∧ t.volume.toNat = nrx2.toNat / 16 ∧
    t.envTimer = nrx2.toNat % 8

/-- R485, R486: the overflow test of a trigger with frequency `f`: `f ∓ (f >> s)` above 2047, when the shift s is not 0. -/
def sweepOverflows (nr10 : Byte) (f : Nat) : Bool :=
  let s := nr10.toNat % 8
  let f' := if nr10.toNat / 8 % 2 = 1 then f - f / 2 ^ s else f + f / 2 ^ s
  decide (s ≠ 0 ∧ 2047 < f')

/-- R489: the noise period. -/
def noiseCycles (scale : NoiseScale) (nr43 : Byte) : Nat :=
  (match scale with
    | .eight => 8
    | .one => 1) * [8, 16, 32, 48, 64, 80, 96, 112].getD (nr43.toNat % 8) 0 * 2 ^ (nr43.toNat / 16)

/-- R483: a length counter after a step of the sequencer: `on` is the channel's length enable, `tick` the length clock. -/
def lengthAfter (tick on : Bool) (length : Nat) : Nat := if tick && on then length - 1 else length

/-- R483: the length clock ends the channel: the counter becomes 0. -/
def lengthEnds (tick on : Bool) (length : Nat) : Bool := tick && on && decide (length = 1)

end Sys2Proof.Claims

open Sys2Proof Sys2Proof.Machine Sys2Proof.Claims

/-! ### Encoding and decoding -/

/-- R150 to R166: decoding the bytes of a well-formed instruction gives it back, whatever follows. -/
def Obligations.DecodeOfEncode : Prop :=
  ∀ (i : Instr) (rest : List Byte), WellFormed i → decode (encode i ++ rest) = .ok (i, rest)

/-- R151, R164: whatever is decoded is well formed and its encoding is the bytes it was read from, each one of them. -/
def Obligations.EncodeOfDecode : Prop :=
  ∀ (bytes rest : List Byte) (i : Instr), decode bytes = .ok (i, rest) → WellFormed i ∧ encode i ++ rest = bytes

/-- R165, R166, R84: words written out from the opcode maps decode to the instructions they stand for. The word of a CB
row holds its first byte in bits 15..8 (log entry 13, DEDUCED from R169); every other word holds it in bits 7..0. -/
def Obligations.DecodedWords : Prop :=
  decodeTableWord 8 0b01111000 = some .ldAB ∧ decodeTableWord 24 0xABCD01 = some (.ldBcD16 0xABCD) ∧
    decodeTableWord 16 0xFE18 = some (.jrE8 0xFE) ∧ decodeTableWord 8 0b10011110 = some .sbcAAtHl ∧
    decodeTableWord 16 0xCB7F = some .bit7A ∧ decodeTableWord 16 0xCB36 = some .swapAtHl ∧
    decodeTableWord 24 0xC000EA = some (.ldAtA16A 0xC000) ∧ decodeTableWord 8 0xED = some .illegalED

/-- R151, R163: the eleven illegal opcodes select the illegal-opcode instructions, and no other opcode does. -/
def Obligations.IllegalOpcodesExactly : Prop :=
  (∀ op i, (op, i) ∈ Forms.illegal → ∀ b1 b2, decodeBytes op b1 b2 = i) ∧
    (∀ op b1 b2 o, (o, decodeBytes op b1 b2) ∈ Forms.illegal → o = op) ∧
    Forms.illegal.map Prod.fst = [0xD3, 0xDB, 0xDD, 0xE3, 0xE4, 0xEB, 0xEC, 0xED, 0xF4, 0xFC, 0xFD]

/-- R151, R152, R400, R531: when the bytes at PC decode to `i` and nothing else is due, the step is `exec i`, the EI delay
counted down, and the devices advanced by the cycles counted. -/
def Obligations.StepRunsDecoded : Prop :=
  ∀ (s : State) (i : Instr) (rest : List Byte), s.cart ≠ none → Runs s →
    decode [s.read s.regs.pc, s.read s.operandAddr, s.read (s.operandAddr + 1)] = .ok (i, rest) →
    WellFormed i ∧
      ∀ t, exec i s = .next t →
        step s = .next (t.afterInstr.advanceBy (t.cpu.cycles - s.cpu.cycles))

/-- R349: the CB prefix executes the CB-table instruction its second byte selects; under the HALT bug the second byte
fetched is the prefix itself. That the prefix row is a constructor of its own is log entry 14 (DEDUCED). -/
def Obligations.CbPrefixSelects : Prop :=
  ∀ (op2 : Byte) (s : State),
    exec (.prefixCb op2) s = exec (decodeCb op2) s ∧ (∃ t, exec (.prefixCb op2) s = .next t) ∧
      (s.read s.regs.pc = 0xCB → s.fetchInstr = if s.cpu.haltBug then .set1E else decodeCb (s.read (s.regs.pc + 1)))

/-! ### Loads -/

/-- R200, R201, R202: the register loads. -/
def Obligations.LoadsToRegister : Prop :=
  (∀ op i dst src, (op, i, dst, src) ∈ Forms.ldReg → ∀ b1 b2 s, decodeBytes op b1 b2 = i ∧
      exec i s = .next ((s.passed 1 4).setReg8 dst (s.regs.get8 src))) ∧
    (∀ op i dst, (op, i, dst) ∈ Forms.ldImm → ∀ n b2 s, decodeBytes op n b2 = i n ∧
      exec (i n) s = .next ((s.passed 2 8).setReg8 dst n)) ∧
    (∀ op i dst, (op, i, dst) ∈ Forms.ldFromHl → ∀ b1 b2 s, decodeBytes op b1 b2 = i ∧
      exec i s = .next ((s.passed 1 8).setReg8 dst (s.read s.regs.hl)))

/-- R203, R204: the stores through HL. -/
def Obligations.StoresThroughHl : Prop :=
  (∀ op i src, (op, i, src) ∈ Forms.stToHl → ∀ b1 b2 s, decodeBytes op b1 b2 = i ∧
      exec i s = .next ((s.passed 1 8).write s.regs.hl (s.regs.get8 src))) ∧
    (∀ n b2 s, decodeBytes 0x36 n b2 = .ldAtHlD8 n ∧
      exec (.ldAtHlD8 n) s = .next ((s.passed 2 12).write s.regs.hl n))

/-- R205 to R212: the loads of A from an address and the stores of A to one. -/
def Obligations.TransfersOfA : Prop :=
  ∀ (s : State) (b1 b2 n lo hi : Byte),
    (decodeBytes 0x0A b1 b2 = .ldAAtBc ∧
      exec .ldAAtBc s = .next ((s.passed 1 8).setReg8 .a (s.read (wordOf s.regs.b s.regs.c)))) ∧
    (decodeBytes 0x1A b1 b2 = .ldAAtDe ∧
      exec .ldAAtDe s = .next ((s.passed 1 8).setReg8 .a (s.read (wordOf s.regs.d s.regs.e)))) ∧
    (decodeBytes 0xFA lo hi = .ldAAtA16 (wordOf hi lo) ∧
      exec (.ldAAtA16 (wordOf hi lo)) s = .next ((s.passed 3 16).setReg8 .a (s.read (wordOf hi lo)))) ∧
    (decodeBytes 0xF0 n b2 = .ldhAAtA8 n ∧
      exec (.ldhAAtA8 n) s = .next ((s.passed 2 12).setReg8 .a (s.read (BitVec.ofNat 16 (0xFF00 + n.toNat))))) ∧
    (decodeBytes 0xF2 b1 b2 = .ldAAtC ∧
      exec .ldAAtC s = .next ((s.passed 1 8).setReg8 .a (s.read (BitVec.ofNat 16 (0xFF00 + s.regs.c.toNat))))) ∧
    (decodeBytes 0x02 b1 b2 = .ldAtBcA ∧
      exec .ldAtBcA s = .next ((s.passed 1 8).write (wordOf s.regs.b s.regs.c) s.regs.a)) ∧
    (decodeBytes 0x12 b1 b2 = .ldAtDeA ∧
      exec .ldAtDeA s = .next ((s.passed 1 8).write (wordOf s.regs.d s.regs.e) s.regs.a)) ∧
    (decodeBytes 0xEA lo hi = .ldAtA16A (wordOf hi lo) ∧
      exec (.ldAtA16A (wordOf hi lo)) s = .next ((s.passed 3 16).write (wordOf hi lo) s.regs.a)) ∧
    (decodeBytes 0xE0 n b2 = .ldhAtA8A n ∧
      exec (.ldhAtA8A n) s = .next ((s.passed 2 12).write (BitVec.ofNat 16 (0xFF00 + n.toNat)) s.regs.a)) ∧
    (decodeBytes 0xE2 b1 b2 = .ldAtCA ∧
      exec .ldAtCA s = .next ((s.passed 1 8).write (BitVec.ofNat 16 (0xFF00 + s.regs.c.toNat)) s.regs.a))

/-- R213 to R216: the loads and stores that step HL; the access uses HL before it moves. -/
def Obligations.HlStepping : Prop :=
  ∀ (s : State) (b1 b2 : Byte),
    (decodeBytes 0x2A b1 b2 = .ldAAtHlInc ∧
      exec .ldAAtHlInc s = .next (((s.passed 1 8).setReg8 .a (s.read s.regs.hl)).setReg16 .hl (s.regs.hl + 1))) ∧
    (decodeBytes 0x3A b1 b2 = .ldAAtHlDec ∧
      exec .ldAAtHlDec s = .next (((s.passed 1 8).setReg8 .a (s.read s.regs.hl)).setReg16 .hl (s.regs.hl - 1))) ∧
    (decodeBytes 0x22 b1 b2 = .ldAtHlIncA ∧
      exec .ldAtHlIncA s = .next (((s.passed 1 8).write s.regs.hl s.regs.a).setReg16 .hl (s.regs.hl + 1))) ∧
    (decodeBytes 0x32 b1 b2 = .ldAtHlDecA ∧
      exec .ldAtHlDecA s = .next (((s.passed 1 8).write s.regs.hl s.regs.a).setReg16 .hl (s.regs.hl - 1)))

/-- R217, R218, R219: the 16-bit loads and the store of SP, low byte first. -/
def Obligations.WordLoads : Prop :=
  (∀ op i dst, (op, i, dst) ∈ Forms.ldWord → ∀ lo hi s, decodeBytes op lo hi = i (wordOf hi lo) ∧
      exec (i (wordOf hi lo)) s = .next ((s.passed 3 12).setReg16 dst (wordOf hi lo))) ∧
    (∀ lo hi s, decodeBytes 0x08 lo hi = .ldAtA16Sp (wordOf hi lo) ∧
      exec (.ldAtA16Sp (wordOf hi lo)) s =
        .next (((s.passed 3 20).write (wordOf hi lo) (BitVec.ofNat 8 (s.regs.sp.toNat % 256))).write (wordOf hi lo + 1)
          (BitVec.ofNat 8 (s.regs.sp.toNat / 256)))) ∧
    (∀ b1 b2 s, decodeBytes 0xF9 b1 b2 = .ldSpHl ∧ exec .ldSpHl s = .next ((s.passed 1 8).setSp s.regs.hl))

/-- R220, R273: SP plus a signed offset, to HL or to SP. -/
def Obligations.StackPointerOffset : Prop :=
  ∀ (e b2 : Byte) (s : State),
    (decodeBytes 0xF8 e b2 = .ldHlSpE8 e ∧
      ∃ v g, SpOffsetRule s.regs.sp v e g ∧
        exec (.ldHlSpE8 e) s = .next (((s.passed 2 12).setReg16 .hl v).setFlags g)) ∧
    (decodeBytes 0xE8 e b2 = .addSpE8 e ∧
      ∃ v g, SpOffsetRule s.regs.sp v e g ∧ exec (.addSpE8 e) s = .next (((s.passed 2 16).setSp v).setFlags g))

/-! ### Arithmetic and logic -/

/-- R242 to R253: ADD, ADC, SUB and SBC in their three forms. -/
def Obligations.ArithmeticOnA : Prop :=
  (∀ op i alu src, (op, i, alu, src) ∈ Forms.arithReg → ∀ b1 b2 s, decodeBytes op b1 b2 = i ∧
      AluDone alu (s.regs.get8 src) 1 4 s (exec i s)) ∧
    (∀ op i alu, (op, i, alu) ∈ Forms.arithMem → ∀ b1 b2 s, decodeBytes op b1 b2 = i ∧
      AluDone alu (s.read s.regs.hl) 1 8 s (exec i s)) ∧
    (∀ op i alu, (op, i, alu) ∈ Forms.arithImm → ∀ n b2 s, decodeBytes op n b2 = i n ∧
      AluDone alu n 2 8 s (exec (i n) s))

/-- R254 to R265: AND, XOR, OR and CP in their three forms. -/
def Obligations.LogicOnA : Prop :=
  (∀ op i alu src, (op, i, alu, src) ∈ Forms.logicReg → ∀ b1 b2 s, decodeBytes op b1 b2 = i ∧
      AluDone alu (s.regs.get8 src) 1 4 s (exec i s)) ∧
    (∀ op i alu, (op, i, alu) ∈ Forms.logicMem → ∀ b1 b2 s, decodeBytes op b1 b2 = i ∧
      AluDone alu (s.read s.regs.hl) 1 8 s (exec i s)) ∧
    (∀ op i alu, (op, i, alu) ∈ Forms.logicImm → ∀ n b2 s, decodeBytes op n b2 = i n ∧
      AluDone alu n 2 8 s (exec (i n) s))

/-- R266 to R269: INC and DEC of a register and of the byte at HL; C is kept. -/
def Obligations.IncrementDecrement : Prop :=
  (∀ op i k, (op, i, k) ∈ Forms.incReg → ∀ b1 b2 s, decodeBytes op b1 b2 = i ∧
      ∃ v g, IncRule (s.regs.get8 k) v s.regs.f g ∧ exec i s = .next (((s.passed 1 4).setReg8 k v).setFlags g)) ∧
    (∀ op i k, (op, i, k) ∈ Forms.decReg → ∀ b1 b2 s, decodeBytes op b1 b2 = i ∧
      ∃ v g, DecRule (s.regs.get8 k) v s.regs.f g ∧ exec i s = .next (((s.passed 1 4).setReg8 k v).setFlags g)) ∧
    (∀ b1 b2 s, decodeBytes 0x34 b1 b2 = .incAtHl ∧
      ∃ v g, IncRule (s.read s.regs.hl) v s.regs.f g ∧
        exec .incAtHl s = .next (((s.passed 1 12).write s.regs.hl v).setFlags g)) ∧
    (∀ b1 b2 s, decodeBytes 0x35 b1 b2 = .decAtHl ∧
      ∃ v g, DecRule (s.read s.regs.hl) v s.regs.f g ∧
        exec .decAtHl s = .next (((s.passed 1 12).write s.regs.hl v).setFlags g))

/-- R270, R271, R272: ADD HL,rr with its flags (Z kept), INC rr and DEC rr with none. -/
def Obligations.WordArithmetic : Prop :=
  (∀ op i k, (op, i, k) ∈ Forms.addHl → ∀ b1 b2 s, decodeBytes op b1 b2 = i ∧
      exec i s = .next (((s.passed 1 8).setReg16 .hl
          (BitVec.ofNat 16 ((s.regs.hl.toNat + (s.regs.get16 k).toNat) % 65536))).setFlags
        { z := s.regs.f.z, n := false
          h := decide (0xFFF < s.regs.hl.toNat % 4096 + (s.regs.get16 k).toNat % 4096)
          c := decide (0xFFFF < s.regs.hl.toNat + (s.regs.get16 k).toNat) })) ∧
    (∀ op i k, (op, i, k) ∈ Forms.incPair → ∀ b1 b2 s, decodeBytes op b1 b2 = i ∧
      exec i s = .next ((s.passed 1 8).setReg16 k (s.regs.get16 k + 1))) ∧
    (∀ op i k, (op, i, k) ∈ Forms.decPair → ∀ b1 b2 s, decodeBytes op b1 b2 = i ∧
      exec i s = .next ((s.passed 1 8).setReg16 k (s.regs.get16 k - 1)))

/-- R280 to R283: the accumulator rotates, which always clear Z. -/
def Obligations.AccumulatorRotates : Prop :=
  ∀ op i rot, (op, i, rot) ∈ Forms.rotA → ∀ b1 b2 s, decodeBytes op b1 b2 = i ∧
    ∃ v : Byte, v.toNat = rotValue rot s.regs.a.toNat (bit s.regs.f.c) ∧
      exec i s = .next (((s.passed 1 4).setReg8 .a v).setFlags
        { z := false, n := false, h := false, c := rotOut rot s.regs.a.toNat })

/-- R284, R286, R288, R290, R292, R294, R296, R298: the CB rotates, shifts and SWAP of a register. -/
def Obligations.RotatesOfRegister : Prop :=
  ∀ op i rot k, (op, i, rot, k) ∈ Forms.rotReg → ∀ b2 s, decodeBytes 0xCB op b2 = i ∧
    ∃ v g, RotRule rot (s.regs.get8 k) v s.regs.f g ∧ exec i s = .next (((s.passed 2 8).setReg8 k v).setFlags g)

/-- R285, R287, R289, R291, R293, R295, R297, R299: the same of the byte at HL. -/
def Obligations.RotatesOfMemory : Prop :=
  ∀ op i rot, (op, i, rot) ∈ Forms.rotMem → ∀ b2 s, decodeBytes 0xCB op b2 = i ∧
    ∃ v g, RotRule rot (s.read s.regs.hl) v s.regs.f g ∧
      exec i s = .next (((s.passed 2 16).write s.regs.hl v).setFlags g)

/-- R300 to R305: BIT writes only F; RES and SET write no flag; of a register and of the byte at HL. -/
def Obligations.BitInstructions : Prop :=
  (∀ op i b k, (op, i, b, k) ∈ Forms.bitReg → ∀ b2 s, decodeBytes 0xCB op b2 = i ∧
      exec i s = .next ((s.passed 2 8).setFlags (bitRule b (s.regs.get8 k) s.regs.f))) ∧
    (∀ op i b, (op, i, b) ∈ Forms.bitMem → ∀ b2 s, decodeBytes 0xCB op b2 = i ∧
      exec i s = .next ((s.passed 2 12).setFlags (bitRule b (s.read s.regs.hl) s.regs.f))) ∧
    (∀ op i b k, (op, i, b, k) ∈ Forms.resReg → ∀ b2 s, decodeBytes 0xCB op b2 = i ∧
      ∃ v, BitPut b false (s.regs.get8 k) v ∧ exec i s = .next ((s.passed 2 8).setReg8 k v)) ∧
    (∀ op i b, (op, i, b) ∈ Forms.resMem → ∀ b2 s, decodeBytes 0xCB op b2 = i ∧
      ∃ v, BitPut b false (s.read s.regs.hl) v ∧ exec i s = .next ((s.passed 2 16).write s.regs.hl v)) ∧
    (∀ op i b k, (op, i, b, k) ∈ Forms.setReg → ∀ b2 s, decodeBytes 0xCB op b2 = i ∧
      ∃ v, BitPut b true (s.regs.get8 k) v ∧ exec i s = .next ((s.passed 2 8).setReg8 k v)) ∧
    (∀ op i b, (op, i, b) ∈ Forms.setMem → ∀ b2 s, decodeBytes 0xCB op b2 = i ∧
      ∃ v, BitPut b true (s.read s.regs.hl) v ∧ exec i s = .next ((s.passed 2 16).write s.regs.hl v))

/-! ### Control flow -/

/-- R310 to R315: the conditions and the jumps, taken and not taken; a conditional call or return that is not taken costs its
shorter count, and no instruction of the file but POP AF writes a flag (R310). -/
def Obligations.Jumps : Prop :=
  (∀ f : Flags, Cond.holds .nz f = !f.z ∧ Cond.holds .z f = f.z ∧ Cond.holds .nc f = !f.c ∧ Cond.holds .c f = f.c) ∧
    (∀ op i cc, (op, i, cc) ∈ Forms.callCond → ∀ nn s, cc.holds s.regs.f = false → exec (i nn) s = .next (s.passed 3 12)) ∧
    (∀ op i cc, (op, i, cc) ∈ Forms.retCond → ∀ s, cc.holds s.regs.f = false → exec i s = .next (s.passed 1 8)) ∧
    (∀ i s t, exec i s = .next t →
      ((i = .ret ∨ i = .reti ∨ ∃ nn, i = .callA16 nn) ∨ (∃ op nn, (op, i, nn) ∈ Forms.rst) ∨
        (∃ op cc, (op, i, cc) ∈ Forms.retCond) ∨ (∃ op mk cc nn, (op, mk, cc) ∈ Forms.callCond ∧ i = mk nn) ∨
        (∃ op k, (op, i, k) ∈ Forms.pushes) ∨ ∃ op k, (op, i, k) ∈ Forms.pops ∧ k ≠ .af) →
      t.regs.f = s.regs.f) ∧
    (∀ lo hi s, decodeBytes 0xC3 lo hi = .jpA16 (wordOf hi lo) ∧
      exec (.jpA16 (wordOf hi lo)) s = .next ((s.passed 3 16).setPc (wordOf hi lo))) ∧
    (∀ op i cc, (op, i, cc) ∈ Forms.jpCond → ∀ lo hi s, decodeBytes op lo hi = i (wordOf hi lo) ∧
      exec (i (wordOf hi lo)) s =
        .next (if cc.holds s.regs.f then (s.passed 3 16).setPc (wordOf hi lo) else s.passed 3 12)) ∧
    (∀ b1 b2 s, decodeBytes 0xE9 b1 b2 = .jpHl ∧ exec .jpHl s = .next ((s.passed 1 4).setPc s.regs.hl)) ∧
    (∀ e b2 s, decodeBytes 0x18 e b2 = .jrE8 e ∧
      exec (.jrE8 e) s = .next ((s.passed 2 12).setPc (relTarget (s.passed 2 12).regs.pc e))) ∧
    (∀ op i cc, (op, i, cc) ∈ Forms.jrCond → ∀ e b2 s, decodeBytes op e b2 = i e ∧
      exec (i e) s = .next (if cc.holds s.regs.f then (s.passed 2 12).setPc (relTarget (s.passed 2 12).regs.pc e)
        else s.passed 2 8))

/-- R316, R317, R321: the calls and restarts push the address after the instruction. -/
def Obligations.Calls : Prop :=
  (∀ lo hi s, decodeBytes 0xCD lo hi = .callA16 (wordOf hi lo) ∧
      exec (.callA16 (wordOf hi lo)) s =
        .next ((pushed (s.passed 3 24) (s.passed 3 24).regs.pc).setPc (wordOf hi lo))) ∧
    (∀ op i cc, (op, i, cc) ∈ Forms.callCond → ∀ lo hi s, decodeBytes op lo hi = i (wordOf hi lo) ∧
      exec (i (wordOf hi lo)) s =
        .next (if cc.holds s.regs.f then (pushed (s.passed 3 24) (s.passed 3 24).regs.pc).setPc (wordOf hi lo)
          else s.passed 3 12)) ∧
    (∀ op i target, (op, i, target) ∈ Forms.rst → ∀ b1 b2 s, decodeBytes op b1 b2 = i ∧ target.toNat = 8 * (op.toNat / 8 % 8) ∧
      exec i s = .next ((pushed (s.passed 1 16) (s.passed 1 16).regs.pc).setPc target))

/-- R318, R319, R320: the returns; RETI also sets IME at once and clears the EI delay. -/
def Obligations.Returns : Prop :=
  (∀ b1 b2 s, decodeBytes 0xC9 b1 b2 = .ret ∧
      exec .ret s = .next (((s.passed 1 16).setSp (s.regs.sp + 2)).setPc (poppedWord s))) ∧
    (∀ op i cc, (op, i, cc) ∈ Forms.retCond → ∀ b1 b2 s, decodeBytes op b1 b2 = i ∧
      exec i s = .next (if cc.holds s.regs.f then ((s.passed 1 20).setSp (s.regs.sp + 2)).setPc (poppedWord s)
        else s.passed 1 8)) ∧
    (∀ b1 b2 s, decodeBytes 0xD9 b1 b2 = .reti ∧
      exec .reti s =
        .next
          (let t := ((s.passed 1 16).setSp (s.regs.sp + 2)).setPc (poppedWord s)
           { t with cpu := { t.cpu with ime := true, eiDelay := 0 } }))

/-- R322, R323, R330, R331: PUSH and POP, and the two stack primitives; POP AF keeps only bits 7..4 of the popped F. -/
def Obligations.PushPop : Prop :=
  (∀ s v, State.push16 s v = pushed s v ∧ State.stackTop s = poppedWord s ∧ (State.popped s).regs.sp = s.regs.sp + 2) ∧
    (∀ op i k, (op, i, k) ∈ Forms.pushes → ∀ b1 b2 s, decodeBytes op b1 b2 = i ∧
      exec i s = .next (pushed (s.passed 1 16) (s.regs.getStack k))) ∧
    (∀ op i k, (op, i, k) ∈ Forms.pops → ∀ b1 b2 s, decodeBytes op b1 b2 = i ∧
      ∃ r : Regs, exec i s = .next { s.passed 1 12 with regs := r } ∧
        r = { (s.passed 1 12).regs with
              a := r.a, f := r.f, b := r.b, c := r.c, d := r.d, e := r.e, h := r.h, l := r.l, sp := s.regs.sp + 2 } ∧
        (k ≠ .af → r.a = s.regs.a ∧ r.f = s.regs.f) ∧ (k ≠ .bc → r.b = s.regs.b ∧ r.c = s.regs.c) ∧
        (k ≠ .de → r.d = s.regs.d ∧ r.e = s.regs.e) ∧ (k ≠ .hl → r.h = s.regs.h ∧ r.l = s.regs.l) ∧
        (r.getStack k).toNat = if k = .af then (poppedWord s).toNat / 16 * 16 else (poppedWord s).toNat)

/-! ### CPU control -/

/-- R340 to R343: NOP and STOP only pass; HALT halts, or under `entry_pending` with IME = 0 and an interrupt pending sets
`halt_bug` instead; DI clears IME and the EI delay. -/
def Obligations.NopHaltStopDi : Prop :=
  ∀ (n b1 b2 : Byte) (s : State),
    (decodeBytes 0x00 b1 b2 = .nop ∧ exec .nop s = .next (s.passed 1 4)) ∧
    (decodeBytes 0x10 n b2 = .stop n ∧ exec (.stop n) s = .next (s.passed 2 4)) ∧
    (decodeBytes 0xF3 b1 b2 = .di ∧
      exec .di s = .next { s.passed 1 4 with cpu := { (s.passed 1 4).cpu with ime := false, eiDelay := 0 } }) ∧
    (decodeBytes 0x76 b1 b2 = .halt ∧
      exec .halt s =
        .next { s.passed 1 4 with
          cpu :=
            if s.config.haltBugTrigger = .entryPending ∧ s.cpu.ime = false ∧ s.irq.ie &&& s.irq.iflag ≠ 0 then
              { (s.passed 1 4).cpu with haltBug := true }
            else { (s.passed 1 4).cpu with halted := true } })

/-- R344: EI sets IME at the end of the step after it, unless that step is DI (IME stays 0) or RETI (IME is set by it). -/
def Obligations.EiTakesEffectLate : Prop :=
  (∀ b1 b2 s, decodeBytes 0xFB b1 b2 = .ei ∧
      exec .ei s = .next { s.passed 1 4 with
        cpu := { (s.passed 1 4).cpu with
          eiDelay := if s.cpu.ime = false ∧ s.cpu.eiDelay = 0 then 2 else s.cpu.eiDelay } }) ∧
    (∀ s, Runs s → s.fetchInstr = .ei → s.cpu.ime = false → s.cpu.eiDelay = 0 →
      ∃ t, cpuStep s = .next t ∧ t.cpu.ime = false ∧ t.cpu.eiDelay = 1) ∧
    (∀ s, Runs s → s.cpu.ime = false → s.cpu.eiDelay = 1 → s.fetchInstr ≠ .di →
      (∀ op, (op, s.fetchInstr) ∉ Forms.illegal) → ∃ t, cpuStep s = .next t ∧ t.cpu.ime = true ∧ t.cpu.eiDelay = 0) ∧
    (∀ s, Runs s → s.fetchInstr = .di → ∃ t, cpuStep s = .next t ∧ t.cpu.ime = false ∧ t.cpu.eiDelay = 0)

/-- R345 to R348: DAA, with the parameter `DAA_SUB_BORROW_SETS_C`; CPL, SCF and CCF. -/
def Obligations.DaaAndFlagInstructions : Prop :=
  ∀ (b1 b2 : Byte) (s : State),
    (decodeBytes 0x27 b1 b2 = .daa ∧
      ∃ v : Byte, v.toNat = (daaRule s.config.daaSubBorrowSetsC s.regs.a.toNat s.regs.f).1 ∧
        exec .daa s = .next (((s.passed 1 4).setReg8 .a v).setFlags
          { z := decide (v.toNat = 0), n := s.regs.f.n, h := false
            c := (daaRule s.config.daaSubBorrowSetsC s.regs.a.toNat s.regs.f).2 })) ∧
    (decodeBytes 0x2F b1 b2 = .cpl ∧
      exec .cpl s = .next (((s.passed 1 4).setReg8 .a (BitVec.ofNat 8 (255 - s.regs.a.toNat))).setFlags
        { z := s.regs.f.z, n := true, h := true, c := s.regs.f.c })) ∧
    (decodeBytes 0x37 b1 b2 = .scf ∧
      exec .scf s = .next ((s.passed 1 4).setFlags { z := s.regs.f.z, n := false, h := false, c := true })) ∧
    (decodeBytes 0x3F b1 b2 = .ccf ∧
      exec .ccf s = .next ((s.passed 1 4).setFlags { z := s.regs.f.z, n := false, h := false, c := !s.regs.f.c }))

/-- R350, R430: an illegal opcode records the fault, leaves PC at the opcode and costs nothing; then every step and every
`runFrame` changes nothing. That the fetch has spent `halt_bug` is log entry 15 (DEDUCED from R400). -/
def Obligations.IllegalOpcodeFaults : Prop :=
  (∀ op i, (op, i) ∈ Forms.illegal → ∀ s : State,
      exec i s = .next { s with cpu := { s.cpu with fault := some ⟨op, s.regs.pc⟩, haltBug := false } }) ∧
    (∀ op i, (op, i) ∈ Forms.illegal → ∀ s, Runs s → s.fetchInstr = i →
      step s = .next (if s.cart = none then s
        else { s with cpu := { s.cpu with fault := some ⟨op, s.regs.pc⟩, haltBug := false } })) ∧
    (∀ s : State, s.cpu.fault ≠ none → step s = .next s ∧ s.runFrame = .next s)

/-- R432, R418: no instruction but the eleven illegal ones sets `fault`. -/
def Obligations.NoOtherFault : Prop :=
  ∀ (i : Instr) (s t : State), exec i s = .next t → t.cpu.fault ≠ s.cpu.fault → ∃ op, (op, i) ∈ Forms.illegal

/-! ### Frames -/

/-- R88, R72, R78: a store changes what a read gives only where `storeReaches` says; every other byte reads as before. -/
def Obligations.StoreReach : Prop :=
  ∀ (s : State) (a b : Word) (v : Byte), storeReaches a b = false → (s.write a v).read b = s.read b

/-- R81, R92, R415: no store changes a CPU register, the CPU's control state, the parameters, the buttons or the System
counters; the ROM image and the header stay (R73). -/
def Obligations.StoreLeavesCpu : Prop :=
  ∀ (s : State) (a : Word) (v : Byte),
    (s.write a v).regs = s.regs ∧ (s.write a v).cpu = s.cpu ∧ (s.write a v).config = s.config ∧
      (s.write a v).joypad.pressed = s.joypad.pressed ∧ (s.write a v).frameAcc = s.frameAcc ∧
      (s.write a v).frameTotal = s.frameTotal ∧
      (s.write a v).cart.map (fun k => (k.rom, k.title, k.typeCode, k.romBanks, k.ramBanks, k.battery)) =
        s.cart.map (fun k => (k.rom, k.title, k.typeCode, k.romBanks, k.ramBanks, k.battery))

/-- The memory frame of every instruction: a byte that no store of the instruction reaches reads as before; an instruction
that stores nothing leaves every byte. -/
def Obligations.InstructionMemoryFrame : Prop :=
  ∀ (i : Instr) (s t : State) (b : Word), exec i s = .next t →
    (∀ a ∈ storesTo i s, storeReaches a b = false) → t.read b = s.read b

/-! ### The CPU step -/

/-- R411: the pending source of the lowest index is first, and there is none exactly when IE & IF is 0. -/
def Obligations.InterruptPriority : Prop :=
  ∀ q : Irq,
    (∀ k, q.first = some k ↔
      q.ie.getLsbD k.index = true ∧ q.iflag.getLsbD k.index = true ∧
        ∀ j, j < k.index → ¬ (q.ie.getLsbD j = true ∧ q.iflag.getLsbD j = true)) ∧
    (q.first = none ↔ q.ie &&& q.iflag = 0)

/-- R400, R412, R416: the dispatch of interrupt k, and no instruction in that step. That it leaves `halt_bug` as it was is
log entry 15 (DEDUCED from R400's list of what it clears). -/
def Obligations.InterruptDispatch : Prop :=
  ∀ (s : State) (k : IrqSource), s.cpu.fault = none → s.cpu.ime = true → s.irq.first = some k →
    cpuStep s =
      .next ((pushed
        { s with
          cpu := { s.cpu with ime := false, eiDelay := 0, halted := false, cycles := s.cpu.cycles + 20 }
          irq := { s.irq with iflag := s.irq.iflag &&& ~~~(1#5 <<< k.index) } } s.regs.pc).setPc
        (BitVec.ofNat 16 (0x40 + 8 * k.index)))

/-- R413, R414: a halted CPU with nothing pending only counts 4 cycles while the devices advance; with IME = 0 and an
interrupt pending it wakes and executes in the same step, `halt_bug` set under `wake_ime0`. -/
def Obligations.HaltedSteps : Prop :=
  (∀ s : State, s.cpu.fault = none → s.cpu.halted = true → s.irq.ie &&& s.irq.iflag = 0 →
      cpuStep s = .next { s with cpu := { s.cpu with cycles := s.cpu.cycles + 4 } } ∧
        (s.cart ≠ none →
          step s = .next (State.advanceDevices 4 { s with cpu := { s.cpu with cycles := s.cpu.cycles + 4 } }))) ∧
    (∀ s : State, s.cpu.fault = none → s.cpu.halted = true → s.cpu.ime = false → s.irq.ie &&& s.irq.iflag ≠ 0 →
      cpuStep s = runInstr { s with
        cpu := { s.cpu with
          halted := false
          haltBug := if s.config.haltBugTrigger = .wakeIme0 then true else s.cpu.haltBug } })

/-- R133, R432, R151: every step of every state ends in a next state: no access traps and no opcode is unknown. -/
def Obligations.EveryStepCompletes : Prop := ∀ s : State, ∃ t, step s = .next t

/-- R401: a CPU step counts 0, 4, 8, 12, 16, 20 or 24 cycles, 0 exactly when the CPU is faulted after it. -/
def Obligations.StepCycles : Prop :=
  ∀ s t : State, cpuStep s = .next t →
    ∃ n, t.cpu.cycles = s.cpu.cycles + 4 * n ∧ n ≤ 6 ∧ (n = 0 ↔ t.cpu.fault ≠ none)

/-- R51: the CPU state after reset. -/
def Obligations.ResetCpu : Prop :=
  State.reset.regs.a = 0x01 ∧ State.reset.regs.f.toByte = 0xB0 ∧ State.reset.regs.bc = 0x0013 ∧
    State.reset.regs.de = 0x00D8 ∧ State.reset.regs.hl = 0x014D ∧ State.reset.regs.af = 0x01B0 ∧
    State.reset.regs.sp = 0xFFFE ∧ State.reset.regs.pc = 0x0100 ∧ State.reset.cpu.ime = false ∧
    State.reset.cpu.halted = false ∧ State.reset.cpu.eiDelay = 0 ∧ State.reset.cpu.haltBug = false ∧
    State.reset.cpu.stopped = false ∧ State.reset.cpu.fault = none ∧ State.reset.cpu.cycles = 0

/-- The machine after reset meets every invariant. It rests on log entry 1 (no cartridge) and 9 (capacity 0). -/
def Obligations.ResetMeetsInvariants : Prop := State.reset.Ok

/-- R520: `reset()` keeps the parameters, the image, the header and battery RAM, and puts the rest at the reset values.
Its APU values rest on the model's choices of log entries 5 (the bits of the sound registers that never read back, the
sweep's shadow and flag) and 9 (the residual of the sample clock); its memory rests on entries 24 (MBC2's nibbles) and 25
(the addresses `RAM_INIT` covers). That `reset()` does the same before any cartridge is loaded is log entry 26 (DESIGN
CHOICE beside I18). -/
def Obligations.HostReset : Prop :=
  ∀ s : State,
    s.hostReset.config = s.config ∧ s.hostReset.regs = Regs.reset ∧ s.hostReset.cpu = Cpu.reset ∧
      s.hostReset.irq.ie = 0 ∧ s.hostReset.irq.iflag = 0b00001 ∧ s.hostReset.frameAcc = 0 ∧ s.hostReset.frameTotal = 0 ∧
      s.hostReset.timer = Timer.reset ∧ s.hostReset.joypad = Joypad.reset ∧ s.hostReset.serial = Serial.reset ∧
      s.hostReset.ppu = Ppu.reset s.config.shades ∧ s.hostReset.apu = Apu.reset ∧ s.hostReset.dma = 0xFF ∧
      (∀ a : Word, regionOf a = .vram ∨ regionOf a = .wram ∨ regionOf a = .oam ∨ regionOf a = .hram ∨
          (0xFF30 ≤ a.toNat ∧ a.toNat < 0xFF40) →
        s.hostReset.read a = s.config.ramInit.read a.toNat) ∧
      ∀ k, s.cart = some k →
        ∃ k', s.hostReset.cart = some k' ∧ k'.rom = k.rom ∧ k'.title = k.title ∧ k'.typeCode = k.typeCode ∧
          k'.romBanks = k.romBanks ∧ k'.ramBanks = k.ramBanks ∧ k'.battery = k.battery ∧ k'.mbc = k.mbc.reset ∧
          k'.extRam = if k.battery then k.extRam else k.fitRam s.config.extRamInit

/-! ### Memory and registers -/

/-- R44, R45: IE and IF keep bits 4..0 of what is written and read back with bits 7..5 at 1; a device's request sets one bit
of IF, and a dispatch clears one. -/
def Obligations.InterruptRegisters : Prop :=
  State.reset.read 0xFFFF = 0xE0 ∧ State.reset.read 0xFF0F = 0xE1 ∧
    (∀ (s : State) (v : Byte),
      s.write 0xFFFF v = { s with irq := { s.irq with ie := v.setWidth 5 } } ∧
        s.write 0xFF0F v = { s with irq := { s.irq with iflag := v.setWidth 5 } } ∧
        (s.write 0xFFFF v).read 0xFFFF = v ||| 0xE0 ∧ (s.write 0xFF0F v).read 0xFF0F = v ||| 0xE0 ∧
        s.read 0xFFFF = 0xE0 ||| s.irq.ie.setWidth 8 ∧ s.read 0xFF0F = 0xE0 ||| s.irq.iflag.setWidth 8) ∧
    ∀ (s : State) (k : IrqSource) (i : Nat), i < 5 →
      (s.request k = { s with irq := (s.request k).irq } ∧ (s.request k).irq.ie = s.irq.ie ∧
        (s.request k).irq.iflag.getLsbD i = (s.irq.iflag.getLsbD i || decide (i = k.index))) ∧
        (s.irq.acknowledge k).ie = s.irq.ie ∧
        (s.irq.acknowledge k).iflag.getLsbD i = (s.irq.iflag.getLsbD i && decide (i ≠ k.index))

/-- R74, R76, R79: VRAM and OAM: a write is ignored under the lock and stores otherwise; a read is never blocked. -/
def Obligations.VramLock : Prop :=
  ∀ (s : State) (a : Word) (v : Byte), regionOf a = .vram ∨ regionOf a = .oam →
    s.read a = s.mem.read a.toNat ∧
      (if s.config.enforceVramLock = true ∧ s.ppu.lcdc.getLsbD 7 = true ∧
          (s.ppu.mode = .oamScan ∨ s.ppu.mode = .drawing) then s.write a v = s
        else (s.write a v).read a = v ∧ s.write a v = { s with mem := (s.write a v).mem })

/-- R77, R78, R82: work RAM and high RAM hold what is written; echo RAM is work RAM, both ways; 0xDE00..0xDFFF has no
echo. -/
def Obligations.PlainMemory : Prop :=
  (∀ (s : State) (a : Word) (v : Byte),
      (0xC000 ≤ a.toNat ∧ a.toNat < 0xE000) ∨ (0xFF80 ≤ a.toNat ∧ a.toNat < 0xFFFF) →
      (s.write a v).read a = v ∧ s.write a v = { s with mem := (s.write a v).mem }) ∧
    (∀ (s : State) (a : Word) (v : Byte), 0xE000 ≤ a.toNat → a.toNat < 0xFE00 →
      s.read a = s.read (a - 0x2000) ∧ s.write a v = s.write (a - 0x2000) v ∧ (s.write (a - 0x2000) v).read a = v) ∧
    (∀ (s : State) (a b : Word) (v : Byte), 0xDE00 ≤ a.toNat → a.toNat < 0xE000 → b ≠ a → (s.write a v).read b = s.read b)

/-- R92: a write to 0xFF46 stores V and copies the 160 bytes at V << 8 into OAM, lock or no lock, and does nothing else. -/
def Obligations.OamDma : Prop :=
  ∀ (s : State) (v : Byte),
    (s.write 0xFF46 v).dma = v ∧ s.write 0xFF46 v = { s with dma := v, mem := (s.write 0xFF46 v).mem } ∧
      (∀ i, i < 160 → (s.write 0xFF46 v).read (BitVec.ofNat 16 (0xFE00 + i)) =
        State.read { s with dma := v } (BitVec.ofNat 16 (v.toNat * 256 + i))) ∧
      (∀ a, ¬ (0xFE00 ≤ a ∧ a < 0xFEA0) → (s.write 0xFF46 v).mem.read a = s.mem.read a)

/-- R48, R80, R95: the unusable region, the unused I/O addresses and 0xFF50 read 0xFF and ignore writes. -/
def Obligations.SilentAddresses : Prop :=
  ∀ (s : State) (a : Word) (v : Byte), Silent a → s.read a = 0xFF ∧ s.write a v = s

/-- R105 to R111, R113, R114, R118 to R120, R122, R125 to R127: for MBC1 and every other controller, the ROM banks a read
finds and the registers a write to 0x0000..0x7FFF sets. -/
def Obligations.Mbc1Banking : Prop :=
  (∀ (r : RomImage) (o : Nat), r.byte o = if o < r.len then r.cells.read o else 0xFF) ∧
    ∀ (s : State) (k : Cart) (a : Word) (v : Byte), s.cart = some k → a.toNat < 0x8000 →
      s.read a =
          k.rom.byte (if k.mbc = .noMbc then a.toNat
            else romBank k.mbc (decide (0x4000 ≤ a.toNat)) % k.romBanks * 0x4000 + a.toNat % 0x4000) ∧
        s.write a v = { s with cart := some { k with mbc := mbcAfter k.mbc a.toNat v } }

/-- R75, R106, R112, R115, R116, R121, R123, R128: the external-RAM window. With its RAM disabled, or with none there, a
controller reads 0xFF and ignores writes; enabled, MBC1, MBC3 and MBC5 reach a byte of the selected bank, MBC2 a nibble
that reads with its upper half 1, and MBC3 with a select of 8 to 12 the latched RTC (reads) and the live one (writes). -/
def Obligations.DisabledRam : Prop :=
  ∀ (s : State) (k : Cart) (a : Word) (v : Byte), s.cart = some k → 0xA000 ≤ a.toNat → a.toNat < 0xC000 →
    ((match k.mbc with
        | .noMbc => True
        | .mbc1 r => r.ramEnable = false ∨ k.ramBanks = 0
        | .mbc2 r => r.ramEnable = false ∨ 0xA200 ≤ a.toNat
        | .mbc3 r => r.ramEnable = false ∨ (r.select.toNat < 4 ∧ k.ramBanks = 0) ∨
            (4 ≤ r.select.toNat ∧ r.select.toNat < 8) ∨ 0x0C < r.select.toNat
        | .mbc5 r => r.ramEnable = false ∨ k.ramBanks = 0) →
      s.read a = 0xFF ∧ s.write a v = s) ∧
    (∀ b, ramBank k.mbc = some b → 0 < k.ramBanks →
      s.read a = k.extRam.read (b % k.ramBanks * 0x2000 + (a.toNat - 0xA000)) ∧
        RamStored s k (b % k.ramBanks * 0x2000 + (a.toNat - 0xA000)) v (s.write a v)) ∧
    (∀ r, k.mbc = .mbc2 r → r.ramEnable = true → a.toNat < 0xA200 →
      s.read a = 0xF0 ||| k.extRam.read (a.toNat - 0xA000) ∧
        RamStored s k (a.toNat - 0xA000) (BitVec.ofNat 8 (v.toNat % 16)) (s.write a v)) ∧
    ∀ r, k.mbc = .mbc3 r → r.ramEnable = true → 8 ≤ r.select.toNat → r.select.toNat ≤ 12 →
      (s.read a).toNat = rtcNumber r.latched r.select.toNat ∧
        s.write a v =
          { s with cart := some { k with mbc := .mbc3 { r with live := rtcStored r.live r.select.toNat v.toNat } } }

/-! ### Devices -/

/-- R442, R443, R444: DIV and TIMA over an advance by any number of cycles, with the reload and the request at every
overflow; the writes and the reads. -/
def Obligations.TimerCounts : Prop :=
  (∀ t : BitVec 3, timaPeriod t = [1024, 16, 64, 256].getD (t.toNat % 4) 0) ∧
    (∀ (s : State) (n : Nat),
      let k := (s.timer.timaAcc + n) / timaPeriod s.timer.tac
      let after := timaAfter s.timer.tima.toNat s.timer.tma.toNat k
      let running := s.timer.tac.getLsbD 2
      s.timerAdvance n =
        { s with
          timer :=
            { s.timer with
              div := BitVec.ofNat 8 ((s.timer.div.toNat + (s.timer.divAcc + n) / 256) % 256)
              divAcc := (s.timer.divAcc + n) % 256
              tima := if running then BitVec.ofNat 8 after.1 else s.timer.tima
              timaAcc := if running then (s.timer.timaAcc + n) % timaPeriod s.timer.tac else s.timer.timaAcc }
          irq := if running && after.2 then { s.irq with iflag := s.irq.iflag ||| 0b00100 } else s.irq }) ∧
    (∀ (s : State) (v : Byte),
      s.write 0xFF04 v = { s with timer := { s.timer with div := 0, divAcc := 0 } } ∧
        s.write 0xFF05 v = { s with timer := { s.timer with tima := v } } ∧
        s.write 0xFF06 v = { s with timer := { s.timer with tma := v } } ∧
        s.write 0xFF07 v = { s with timer := { s.timer with tac := v.setWidth 3, timaAcc := 0 } } ∧
        s.read 0xFF04 = s.timer.div ∧ s.read 0xFF05 = s.timer.tima ∧ s.read 0xFF06 = s.timer.tma ∧
        s.read 0xFF07 = 0xF8 ||| s.timer.tac.setWidth 8)

/-- R442, R443, R461, R546: the timer and the PPU miss nothing: an advance by m + n cycles is one by m, then one by n. -/
def Obligations.DevicesMissNothing : Prop :=
  ∀ (s : State) (m n : Nat),
    s.timerAdvance (m + n) = (s.timerAdvance m).timerAdvance n ∧ s.ppuAdvance (m + n) = (s.ppuAdvance m).ppuAdvance n

/-- R450, R451, R452: what P1 reads, what a write of it stores, and when `setButton` requests the joypad interrupt. That the
call changes nothing before a cartridge is loaded is log entry 26 (DEDUCED from I18). -/
def Obligations.JoypadEncoder : Prop :=
  State.reset.read 0xFF00 = 0xCF ∧ (∀ k, State.reset.buttonsState.get k = false) ∧
    (∀ s : State,
      let way := s.joypad.sel.getLsbD 0 = false
      let act := s.joypad.sel.getLsbD 1 = false
      let held := s.joypad.pressed
      (s.read 0xFF00).toNat / 16 = 12 + s.joypad.sel.toNat ∧
        ((s.read 0xFF00).getLsbD 0 = false ↔ (way ∧ held.right = true) ∨ (act ∧ held.a = true)) ∧
        ((s.read 0xFF00).getLsbD 1 = false ↔ (way ∧ held.left = true) ∨ (act ∧ held.b = true)) ∧
        ((s.read 0xFF00).getLsbD 2 = false ↔ (way ∧ held.up = true) ∨ (act ∧ held.select = true)) ∧
        ((s.read 0xFF00).getLsbD 3 = false ↔ (way ∧ held.down = true) ∨ (act ∧ held.start = true))) ∧
    (∀ (s : State) (v : Byte),
      s.write 0xFF00 v = { s with joypad := { s.joypad with sel := BitVec.ofNat 2 (v.toNat / 16) } }) ∧
    (∀ (s : State) (k : Button) (p : Bool), s.cart = none → s.setButton k p = s) ∧
    (∀ (s : State) (k : Button) (p : Bool), s.cart ≠ none →
      s.setButton k p = { s with joypad := (s.setButton k p).joypad, irq := (s.setButton k p).irq } ∧
        (s.setButton k p).joypad.sel = s.joypad.sel ∧
        (∀ j, (s.setButton k p).buttonsState.get j = if j = k then p else s.buttonsState.get j) ∧
        (s.setButton k p).irq =
          if p = true ∧ s.buttonsState.get k = false ∧ (s.read 0xFF00).getLsbD (if k.isDirection then 4 else 5) = false
          then { s.irq with iflag := s.irq.iflag ||| 0b10000 } else s.irq)

/-- R465, R466, R467, R461: what STAT reads; the STAT line evaluated, and the LCD-STAT interrupt requested on its rise, after
the writes of STAT, LYC, LY and LCDC and after every mode transition; the LCD switched off and on; and the plain registers
(R47). -/
def Obligations.LcdRegisters : Prop :=
  (∀ s : State,
      (s.read 0xFF41).getLsbD 7 = true ∧ (s.read 0xFF41).extractLsb' 3 4 = s.ppu.statEnable ∧
        ((s.read 0xFF41).getLsbD 2 = true ↔ s.ppu.line = s.ppu.lyc.toNat) ∧
        ((s.read 0xFF41).extractLsb' 0 2 = match s.ppu.mode with
          | .hblank => 0
          | .vblank => 1
          | .oamScan => 2
          | .drawing => 3)) ∧
    (∀ (s : State) (v : Byte),
      StatEvaluated { s with ppu := { s.ppu with statEnable := BitVec.ofNat 4 (v.toNat / 8 % 16) } } (s.write 0xFF41 v) ∧
        StatEvaluated { s with ppu := { s.ppu with lyc := v } } (s.write 0xFF45 v) ∧
        StatEvaluated
          { s with
            ppu := { s.ppu with
              line := 0, modeCycles := 0, mode := if s.ppu.lcdc.getLsbD 7 then .oamScan else s.ppu.mode } }
          (s.write 0xFF44 v) ∧
        (s.ppu.lcdc.getLsbD 7 = v.getLsbD 7 → StatEvaluated { s with ppu := { s.ppu with lcdc := v } } (s.write 0xFF40 v))) ∧
    (∀ (s : State) (v : Byte), s.ppu.lcdc.getLsbD 7 = true → v.getLsbD 7 = false →
      s.write 0xFF40 v =
        { s with
          ppu := { s.ppu with
            lcdc := v, mode := .hblank, line := 0, modeCycles := 0, statLine := false
            work := blankFrame s.config.shades.s0, output := blankFrame s.config.shades.s0 } } ∧
        ∀ n, (s.write 0xFF40 v).ppuAdvance n = s.write 0xFF40 v) ∧
    (∀ (s : State) (v : Byte), s.ppu.lcdc.getLsbD 7 = false → v.getLsbD 7 = true →
      StatEvaluated { s with ppu := { s.ppu with lcdc := v, mode := .oamScan, line := 0, modeCycles := 0 } }
        (s.write 0xFF40 v)) ∧
    (∀ (s : State) (n : Nat), s.ppu.lcdc.getLsbD 7 = true → s.ppu.modeCycles < s.ppu.mode.duration →
      (s.ppu.modeCycles + n < s.ppu.mode.duration →
        s.ppuAdvance n = { s with ppu := { s.ppu with modeCycles := s.ppu.modeCycles + n } }) ∧
      (s.ppu.modeCycles + n = s.ppu.mode.duration →
        ∃ t : State, StatEvaluated t (s.ppuAdvance n) ∧ t = { s with ppu := t.ppu, irq := t.irq } ∧
          (t.ppu.mode, t.ppu.line) = nextMode s.ppu.mode s.ppu.line ∧ t.ppu.modeCycles = 0 ∧
          t.ppu.statLine = s.ppu.statLine ∧ t.ppu.statEnable = s.ppu.statEnable ∧ t.ppu.lyc = s.ppu.lyc ∧
          t.ppu.lcdc = s.ppu.lcdc ∧
          t.irq = (if s.ppu.mode = .hblank ∧ s.ppu.line + 1 = 144 then { s.irq with iflag := s.irq.iflag ||| 0b00001 }
            else s.irq))) ∧
    ∀ (s : State) (v : Byte),
      (s.write 0xFF42 v = { s with ppu := { s.ppu with scy := v } } ∧ s.read 0xFF42 = s.ppu.scy) ∧
        (s.write 0xFF43 v = { s with ppu := { s.ppu with scx := v } } ∧ s.read 0xFF43 = s.ppu.scx) ∧
        (s.write 0xFF47 v = { s with ppu := { s.ppu with bgp := v } } ∧ s.read 0xFF47 = s.ppu.bgp) ∧
        (s.write 0xFF48 v = { s with ppu := { s.ppu with obp0 := v } } ∧ s.read 0xFF48 = s.ppu.obp0) ∧
        (s.write 0xFF49 v = { s with ppu := { s.ppu with obp1 := v } } ∧ s.read 0xFF49 = s.ppu.obp1) ∧
        (s.write 0xFF4A v = { s with ppu := { s.ppu with wy := v } } ∧ s.read 0xFF4A = s.ppu.wy) ∧
        (s.write 0xFF4B v = { s with ppu := { s.ppu with wx := v } } ∧ s.read 0xFF4B = s.ppu.wx) ∧
        s.read 0xFF40 = s.ppu.lcdc ∧ s.read 0xFF44 = BitVec.ofNat 8 s.ppu.line ∧ s.read 0xFF45 = s.ppu.lyc ∧
        s.read 0xFF46 = s.dma

/-- R461, R468, R548: with the LCD on, 70,224 cycles bring the PPU back to the same mode, line and mode cycle, with exactly
one V-blank: a point d of them at which it is requested and the frame published, no request before d, and, the request
acknowledged there, none in the cycles that are left. -/
def Obligations.FramePeriod : Prop :=
  ∀ s : State, s.ppu.Ok → s.ppu.lcdOn = true →
    ((s.ppuAdvance 70224).ppu.mode = s.ppu.mode ∧ (s.ppuAdvance 70224).ppu.line = s.ppu.line ∧
      (s.ppuAdvance 70224).ppu.modeCycles = s.ppu.modeCycles ∧ requested (s.ppuAdvance 70224) .vblank = true ∧
      (s.ppuAdvance 70224).ppu.frameComplete = true) ∧
    ∃ d, 0 < d ∧ d ≤ 70224 ∧
      (∀ m, m < d → requested (s.ppuAdvance m) .vblank = requested s .vblank ∧
        (s.ppuAdvance m).ppu.frameComplete = s.ppu.frameComplete) ∧
      requested (s.ppuAdvance d) .vblank = true ∧ (s.ppuAdvance d).ppu.frameComplete = true ∧
      (s.ppuAdvance d).ppu.output = (s.ppuAdvance d).ppu.work ∧
      ∀ m, d + m ≤ 70224 →
        requested (State.ppuAdvance m { s.ppuAdvance d with irq := (s.ppuAdvance d).irq.acknowledge .vblank }) .vblank = false

/-- R410, R475, R453: a device advance only adds requests, never of the serial port or the joypad, and leaves IE, memory,
the cartridge, SB, SC and the CPU alone. SB and SC are plain storage: SC keeps bits 7 and 0 and reads its other bits as 1. -/
def Obligations.DeviceRequests : Prop :=
  (∀ (s : State) (v : Byte),
      s.write 0xFF01 v = { s with serial := { s.serial with sb := v } } ∧ s.read 0xFF01 = s.serial.sb ∧
        s.write 0xFF02 v =
          { s with serial := { s.serial with start := decide (128 ≤ v.toNat), clock := decide (v.toNat % 2 = 1) } } ∧
        (s.write 0xFF02 v).read 0xFF02 = v ||| 0x7E ∧
        (s.read 0xFF02).toNat = 0x7E + 128 * bit s.serial.start + bit s.serial.clock) ∧
  ∀ (s : State) (n : Nat), (s.advanceDevices n).serial = s.serial ∧
    (∀ k, requested s k = true → requested (s.advanceDevices n) k = true) ∧
      requested (s.advanceDevices n) .serial = requested s .serial ∧
      requested (s.advanceDevices n) .joypad = requested s .joypad ∧
      (s.advanceDevices n).irq.ie = s.irq.ie ∧ (s.advanceDevices n).mem = s.mem ∧
      (s.advanceDevices n).cart = s.cart ∧ (s.advanceDevices n).regs = s.regs ∧ (s.advanceDevices n).cpu = s.cpu ∧
      (s.advanceDevices n).frameAcc = s.frameAcc + n

/-- R47, R481 to R483, R486, R490: the sound registers. Their reads with the bits that are always 1; with the power on, the
stored value, the loads of the length counters, the DACs that switch off and the four triggers; the length clock of an
advance; and the power switch, which clears the registers and disables the channels but keeps the length counters and the
wave RAM, after which writes to 0xFF10..0xFF25 are ignored. -/
def Obligations.ApuPower : Prop :=
  (∀ (s : State) (v : Byte), s.apu.power = true → v.getLsbD 7 = false →
      (s.write 0xFF26 v).read 0xFF26 = 0x70 ∧ (s.write 0xFF26 v).apu.regs = ApuRegs.zero ∧
        (s.write 0xFF26 v).apu.ch1.length = s.apu.ch1.length ∧ (s.write 0xFF26 v).apu.ch2.length = s.apu.ch2.length ∧
        (s.write 0xFF26 v).apu.ch3.length = s.apu.ch3.length ∧ (s.write 0xFF26 v).apu.ch4.length = s.apu.ch4.length ∧
        (s.write 0xFF26 v).mem = s.mem) ∧
    (∀ (s : State) (v : Byte), s.apu.power = false → v.getLsbD 7 = true →
      (s.write 0xFF26 v).apu = { s.apu with power := true, fsStep := 0, fsAcc := 0 }) ∧
    (∀ (s : State) (a : Word) (v : Byte), s.apu.power = false → 0xFF10 ≤ a.toNat → a.toNat ≤ 0xFF25 → s.write a v = s) ∧
    (∀ (s : State) (a : Nat) (k : SoundReg) (mask v : Byte), (a, k, mask) ∈ soundRegs →
      s.read (BitVec.ofNat 16 a) = s.apu.regs.get k ||| mask ∧
        (s.apu.power = true →
          (∀ j, (s.write (BitVec.ofNat 16 a) v).apu.regs.get j = if j = k then v else s.apu.regs.get j) ∧
            s.write (BitVec.ofNat 16 a) v =
              { s with
                apu := { s.apu with
                  regs := (s.write (BitVec.ofNat 16 a) v).apu.regs, ch1 := (s.write (BitVec.ofNat 16 a) v).apu.ch1
                  ch2 := (s.write (BitVec.ofNat 16 a) v).apu.ch2, ch3 := (s.write (BitVec.ofNat 16 a) v).apu.ch3
                  ch4 := (s.write (BitVec.ofNat 16 a) v).apu.ch4, sweep := (s.write (BitVec.ofNat 16 a) v).apu.sweep } } ∧
            ((s.write (BitVec.ofNat 16 a) v).apu.ch1 = s.apu.ch1 ∨ k = .nr11 ∨ k = .nr12 ∨ k = .nr14) ∧
            ((s.write (BitVec.ofNat 16 a) v).apu.sweep = s.apu.sweep ∨ k = .nr14) ∧
            ((s.write (BitVec.ofNat 16 a) v).apu.ch2 = s.apu.ch2 ∨ k = .nr21 ∨ k = .nr22 ∨ k = .nr24) ∧
            ((s.write (BitVec.ofNat 16 a) v).apu.ch3 = s.apu.ch3 ∨ k = .nr30 ∨ k = .nr31 ∨ k = .nr34) ∧
            ((s.write (BitVec.ofNat 16 a) v).apu.ch4 = s.apu.ch4 ∨ k = .nr41 ∨ k = .nr42 ∨ k = .nr44))) ∧
    (∀ (s : State) (v : Byte), s.apu.power = true →
      (s.write 0xFF11 v).apu.ch1 = { s.apu.ch1 with length := 64 - v.toNat % 64 } ∧
        (s.write 0xFF16 v).apu.ch2 = { s.apu.ch2 with length := 64 - v.toNat % 64 } ∧
        (s.write 0xFF20 v).apu.ch4 = { s.apu.ch4 with length := 64 - v.toNat % 64 } ∧
        (s.write 0xFF1B v).apu.ch3 = { s.apu.ch3 with length := 256 - v.toNat } ∧
        (s.write 0xFF12 v).apu.ch1 = { s.apu.ch1 with enabled := s.apu.ch1.enabled && decide (8 ≤ v.toNat) } ∧
        (s.write 0xFF17 v).apu.ch2 = { s.apu.ch2 with enabled := s.apu.ch2.enabled && decide (8 ≤ v.toNat) } ∧
        (s.write 0xFF21 v).apu.ch4 = { s.apu.ch4 with enabled := s.apu.ch4.enabled && decide (8 ≤ v.toNat) } ∧
        (s.write 0xFF1A v).apu.ch3 = { s.apu.ch3 with enabled := s.apu.ch3.enabled && decide (128 ≤ v.toNat) }) ∧
    (∀ (s : State) (v : Byte), s.apu.power = true → v.toNat < 128 →
      (s.write 0xFF14 v).apu.ch1 = s.apu.ch1 ∧ (s.write 0xFF14 v).apu.sweep = s.apu.sweep ∧
        (s.write 0xFF19 v).apu.ch2 = s.apu.ch2 ∧ (s.write 0xFF1E v).apu.ch3 = s.apu.ch3 ∧
        (s.write 0xFF23 v).apu.ch4 = s.apu.ch4) ∧
    (∀ (s : State) (v : Byte), s.apu.power = true → 128 ≤ v.toNat →
      PulseTriggered s.apu.ch1 (s.write 0xFF14 v).apu.ch1 s.apu.regs.nr12 (freq s.apu.regs.nr13 v)
          (sweepOverflows s.apu.regs.nr10 (freq s.apu.regs.nr13 v)) ∧
        (s.write 0xFF14 v).apu.sweep =
          { shadow := BitVec.ofNat 11 (freq s.apu.regs.nr13 v)
            timer := if s.apu.regs.nr10.toNat / 16 % 8 = 0 then 8 else s.apu.regs.nr10.toNat / 16 % 8
            active := decide (s.apu.regs.nr10.toNat / 16 % 8 ≠ 0 ∨ s.apu.regs.nr10.toNat % 8 ≠ 0) } ∧
        PulseTriggered s.apu.ch2 (s.write 0xFF19 v).apu.ch2 s.apu.regs.nr22 (freq s.apu.regs.nr23 v) false ∧
        (s.write 0xFF1E v).apu.ch3 =
          { enabled := decide (128 ≤ s.apu.regs.nr30.toNat)
            length := if s.apu.ch3.length = 0 then 256 else s.apu.ch3.length
            freqTimer := (2048 - freq s.apu.regs.nr33 v) * 2
            wavePos := 0 } ∧
        (s.write 0xFF23 v).apu.ch4 =
          { enabled := decide (8 ≤ s.apu.regs.nr42.toNat)
            length := if s.apu.ch4.length = 0 then 64 else s.apu.ch4.length
            freqTimer := noiseCycles s.config.noiseScale s.apu.regs.nr43
            lfsr := 0x7FFF
            volume := BitVec.ofNat 4 (s.apu.regs.nr42.toNat / 16)
            envTimer := s.apu.regs.nr42.toNat % 8 }) ∧
    ∀ (s : State) (n : Nat), s.apu.fsAcc < 8192 → s.apu.fsAcc + n < 16384 →
      let t := (s.apuAdvance n).apu
      let step := s.apu.power && decide (8192 ≤ s.apu.fsAcc + n)
      let tick := step && decide (s.apu.fsStep.toNat % 2 = 0)
      let on (nrx4 : Byte) : Bool := decide (nrx4.toNat / 64 % 2 = 1)
      t.fsStep = (if step then s.apu.fsStep + 1 else s.apu.fsStep) ∧
        t.fsAcc = (if s.apu.power then (s.apu.fsAcc + n) % 8192 else s.apu.fsAcc) ∧
        t.ch1.length = lengthAfter tick (on s.apu.regs.nr14) s.apu.ch1.length ∧
        t.ch2.length = lengthAfter tick (on s.apu.regs.nr24) s.apu.ch2.length ∧
        t.ch3.length = lengthAfter tick (on s.apu.regs.nr34) s.apu.ch3.length ∧
        t.ch4.length = lengthAfter tick (on s.apu.regs.nr44) s.apu.ch4.length ∧
        t.ch2.enabled = (s.apu.ch2.enabled && !lengthEnds tick (on s.apu.regs.nr24) s.apu.ch2.length) ∧
        t.ch3.enabled = (s.apu.ch3.enabled && !lengthEnds tick (on s.apu.regs.nr34) s.apu.ch3.length) ∧
        t.ch4.enabled = (s.apu.ch4.enabled && !lengthEnds tick (on s.apu.regs.nr44) s.apu.ch4.length) ∧
        (s.apu.fsStep.toNat ≠ 2 ∧ s.apu.fsStep.toNat ≠ 6 →
          t.ch1.enabled = (s.apu.ch1.enabled && !lengthEnds tick (on s.apu.regs.nr14) s.apu.ch1.length)) ∧
        (t.ch1.enabled = true →
          s.apu.ch1.enabled = true ∧ lengthEnds tick (on s.apu.regs.nr14) s.apu.ch1.length = false)

/-! ### Invariants -/

/-- Every step keeps the memory in canonical form, inside the internal memories (R49, R72). -/
def Obligations.StepKeepsMemory : Prop := ∀ s t : State, s.MemOk → step s = .next t → t.MemOk

/-- Every step keeps the cartridge legal (R107, R113, R118, R131), its image and header (R73) and the parameters (R10). -/
def Obligations.StepKeepsCartridge : Prop :=
  ∀ s t : State, step s = .next t →
    (s.CartOk → t.CartOk) ∧ t.config = s.config ∧
      t.cart.map (fun k => (k.rom, k.title, k.typeCode, k.romBanks, k.ramBanks, k.battery)) =
        s.cart.map (fun k => (k.rom, k.title, k.typeCode, k.romBanks, k.ramBanks, k.battery))

/-- Every step keeps the CPU's control state legal (R38, R41, R344) and the cycles accounted for (R530). -/
def Obligations.StepKeepsCpu : Prop :=
  ∀ s t : State, step s = .next t →
    (s.cpu.Ok → t.cpu.Ok) ∧
      (s.cpu.cycles = s.frameTotal + s.frameAcc → t.cpu.cycles = t.frameTotal + t.frameAcc)

/-- Every step keeps the timer's and the PPU's invariants (R441, R460, R461, R465, R467). -/
def Obligations.StepKeepsPpu : Prop :=
  ∀ s t : State, step s = .next t → (s.timer.Ok → t.timer.Ok) ∧ (s.ppu.Ok → t.ppu.Ok)

/-- Every step keeps the APU's invariants (R482, R483, R490, R492). The bound of `sampleAcc` rests on log entry 9 (DESIGN
CHOICE: the unit of the residual). -/
def Obligations.StepKeepsApu : Prop :=
  ∀ s t : State, step s = .next t → s.apu.Ok s.config.bufferCapacity → t.apu.Ok t.config.bufferCapacity

/-- R530: a `runFrame` that no fault ends accounts for exactly 70,224 cycles, and carries less than one instruction. -/
def Obligations.FrameAccounting : Prop :=
  ∀ s : State, s.cart ≠ none → s.cpu.fault = none → s.cpu.cycles = s.frameTotal + s.frameAcc → s.frameAcc < 70224 →
    ∃ t, s.runFrame = .next t ∧ t.cpu.cycles = t.frameTotal + t.frameAcc ∧
      (t.cpu.fault = none → t.frameTotal = s.frameTotal + 70224 ∧ t.frameAcc < 24)
end

