-- ==== Sys2Proof/Laws/Memory.lean ====
section
/-! SUPPORT. The laws of byte images: read after write, and the canonical form kept by every operation. -/

namespace Sys2Proof

@[simp] theorem Memory.read_nil (a : Nat) : Memory.read [] a = 0x00 := rfl

@[simp] theorem Memory.read_cons (k : Nat) (v : Byte) (m : Memory) (a : Nat) :
    Memory.read ((k, v) :: m) a = if a = k then v else Memory.read m a := rfl

/-! ### Keys of the operations' results -/

theorem Memory.mem_erase {m : Memory} {a : Nat} {cell : Host.Cell} :
    cell ∈ m.erase a ↔ cell ∈ m ∧ cell.1 ≠ a := by
  simp [Memory.erase]

theorem Memory.mem_insert {m : Memory} {a : Nat} {v : Byte} {cell : Host.Cell} :
    cell ∈ m.insert a v ↔ cell = (a, v) ∨ cell ∈ m := by
  induction m with
  | nil => simp [Memory.insert]
  | cons head rest ih =>
    obtain ⟨k, x⟩ := head
    simp only [Memory.insert]
    split <;> simp_all [or_left_comm]

theorem Memory.mem_write {m : Memory} {a : Nat} {v : Byte} {cell : Host.Cell} (h : cell ∈ m.write a v) :
    (cell = (a, v) ∧ v ≠ Memory.unlisted) ∨ (cell ∈ m ∧ cell.1 ≠ a) := by
  unfold Memory.write at h
  split at h
  · exact .inr (Memory.mem_erase.mp h)
  · rcases Memory.mem_insert.mp h with rfl | h
    · exact .inl ⟨rfl, ‹_›⟩
    · exact .inr (Memory.mem_erase.mp h)

/-! ### Read after write -/

theorem Memory.read_absent {m : Memory} {a : Nat} (h : ∀ cell ∈ m, cell.1 ≠ a) : m.read a = Memory.unlisted := by
  induction m with
  | nil => rfl
  | cons head rest ih =>
    obtain ⟨k, x⟩ := head
    have hk : a ≠ k := fun e => h _ (List.mem_cons_self ..) e.symm
    simp [hk, ih fun cell hc => h cell (List.mem_cons_of_mem _ hc)]

@[simp] theorem Memory.read_erase_same (m : Memory) (a : Nat) : (m.erase a).read a = Memory.unlisted :=
  Memory.read_absent fun _ hc => (Memory.mem_erase.mp hc).2

theorem Memory.read_erase_other (m : Memory) {a b : Nat} (h : b ≠ a) : (m.erase a).read b = m.read b := by
  induction m with
  | nil => rfl
  | cons head rest ih =>
    obtain ⟨k, x⟩ := head
    by_cases hk : k = a
    · subst hk
      simpa [Memory.erase, h] using ih
    · have ih' : Memory.read (List.filter (fun cell => cell.1 != a) rest) b = Memory.read rest b := ih
      simp [Memory.erase, hk, ih']

theorem Memory.read_insert_other (m : Memory) {a b : Nat} (v : Byte) (h : b ≠ a) : (m.insert a v).read b = m.read b := by
  induction m with
  | nil => simp [Memory.insert, h]
  | cons head rest ih =>
    obtain ⟨k, x⟩ := head
    simp only [Memory.insert]
    split
    · simp [h]
    · simp [ih]

theorem Memory.read_insert_same {m : Memory} {a : Nat} (v : Byte) (h : ∀ cell ∈ m, cell.1 ≠ a) :
    (m.insert a v).read a = v := by
  induction m with
  | nil => simp [Memory.insert]
  | cons head rest ih =>
    obtain ⟨k, x⟩ := head
    have hk : a ≠ k := fun e => h _ (List.mem_cons_self ..) e.symm
    simp only [Memory.insert]
    split
    · simp
    · simp [hk, ih fun cell hc => h cell (List.mem_cons_of_mem _ hc)]

/-- A read after a write to the same address gives the value written, in every image. -/
@[simp] theorem Memory.read_write_same (m : Memory) (a : Nat) (v : Byte) : (m.write a v).read a = v := by
  unfold Memory.write
  split
  · simp_all
  · exact Memory.read_insert_same v fun _ hc => (Memory.mem_erase.mp hc).2

/-- A write leaves every other address alone. -/
theorem Memory.read_write_other (m : Memory) {a b : Nat} (v : Byte) (h : b ≠ a) : (m.write a v).read b = m.read b := by
  unfold Memory.write
  split
  · exact Memory.read_erase_other m h
  · rw [Memory.read_insert_other _ v h, Memory.read_erase_other m h]

theorem Memory.read_write (m : Memory) (a b : Nat) (v : Byte) :
    (m.write a v).read b = if b = a then v else m.read b := by
  split
  · subst_vars; simp
  · exact Memory.read_write_other m v ‹_›

/-! ### The canonical form -/

theorem Memory.wf_nil : Memory.wf [] := by
  simp [Memory.wf]

theorem Memory.wf_filter {m : Memory} (p : Host.Cell → Bool) (h : m.wf) : Memory.wf (m.filter p) :=
  ⟨h.1.filter p, fun cell hc => h.2 cell (List.mem_of_mem_filter hc)⟩

theorem Memory.wf_erase {m : Memory} (a : Nat) (h : m.wf) : (m.erase a).wf := Memory.wf_filter _ h

theorem Memory.wf_restrict {m : Memory} (lo hi : Nat) (h : m.wf) : (m.restrict lo hi).wf := Memory.wf_filter _ h

theorem Memory.rising_insert {m : Memory} {a : Nat} {v : Byte} (h : m.Pairwise fun x y => x.1 < y.1)
    (new : ∀ cell ∈ m, cell.1 ≠ a) : (m.insert a v).Pairwise fun x y => x.1 < y.1 := by
  induction m with
  | nil => simp [Memory.insert]
  | cons head rest ih =>
    obtain ⟨k, x⟩ := head
    rw [List.pairwise_cons] at h
    simp only [Memory.insert]
    split
    · rw [List.pairwise_cons, List.pairwise_cons]
      refine ⟨fun cell hc => ?_, h⟩
      rcases List.mem_cons.mp hc with rfl | hc
      · assumption
      · have := h.1 cell hc
        simp only at this ⊢
        omega
    · rw [List.pairwise_cons]
      refine ⟨fun cell hc => ?_, ih h.2 fun cell hc => new cell (List.mem_cons_of_mem _ hc)⟩
      rcases Memory.mem_insert.mp hc with rfl | hc
      · have := new (k, x) (List.mem_cons_self ..)
        simp only at this ⊢
        omega
      · exact h.1 cell hc

theorem Memory.wf_write {m : Memory} (a : Nat) (v : Byte) (h : m.wf) : (m.write a v).wf := by
  refine ⟨?_, fun cell hc => ?_⟩
  · unfold Memory.write
    split
    · exact (Memory.wf_erase a h).1
    · exact Memory.rising_insert (Memory.wf_erase a h).1 fun _ hc => (Memory.mem_erase.mp hc).2
  · rcases Memory.mem_write hc with ⟨rfl, hv⟩ | ⟨hc, _⟩
    · exact hv
    · exact h.2 cell hc

theorem Memory.wf_writeAll {m : Memory} (a : Nat) (vs : List Byte) (h : m.wf) : (m.writeAll a vs).wf := by
  induction vs generalizing m a with
  | nil => exact h
  | cons v vs ih => exact ih (a + 1) (Memory.wf_write a v h)

theorem Memory.mem_mask {mask : Byte} {m : Memory} {cell : Host.Cell} (h : cell ∈ Memory.mask mask m) :
    cell.2 ≠ Memory.unlisted ∧ ∃ x, (cell.1, x) ∈ m ∧ cell.2 = x &&& mask := by
  induction m with
  | nil => simp [Memory.mask] at h
  | cons head rest ih =>
    obtain ⟨k, x⟩ := head
    simp only [Memory.mask] at h
    split at h
    · obtain ⟨h1, y, h2, h3⟩ := ih h
      exact ⟨h1, y, List.mem_cons_of_mem _ h2, h3⟩
    · rcases List.mem_cons.mp h with rfl | h
      · exact ⟨‹_›, x, List.mem_cons_self .., rfl⟩
      · obtain ⟨h1, y, h2, h3⟩ := ih h
        exact ⟨h1, y, List.mem_cons_of_mem _ h2, h3⟩

theorem Memory.wf_mask {m : Memory} (mask : Byte) (h : m.wf) : (Memory.mask mask m).wf := by
  refine ⟨?_, fun cell hc => (Memory.mem_mask hc).1⟩
  have rising := h.1
  clear h
  induction m with
  | nil => simp [Memory.mask]
  | cons head rest ih =>
    obtain ⟨k, x⟩ := head
    rw [List.pairwise_cons] at rising
    simp only [Memory.mask]
    split
    · exact ih rising.2
    · rw [List.pairwise_cons]
      refine ⟨fun cell hc => ?_, ih rising.2⟩
      obtain ⟨_, y, hy, _⟩ := Memory.mem_mask hc
      exact rising.1 (cell.1, y) hy

end Sys2Proof
end

