-- ==== Sys2Proof/Laws/State.lean ====
section
/-! SUPPORT. One lemma per field of the state for each state update, so that no proof unfolds an update. -/

namespace Sys2Proof.Machine

/-! ### `setPc` -/

@[simp] theorem State.setPc_config (s : State) (v : Word) :
    (s.setPc v).config = s.config := rfl
@[simp] theorem State.setPc_regs (s : State) (v : Word) :
    (s.setPc v).regs = { s.regs with pc := v } := rfl
@[simp] theorem State.setPc_cpu (s : State) (v : Word) :
    (s.setPc v).cpu = s.cpu := rfl
@[simp] theorem State.setPc_irq (s : State) (v : Word) :
    (s.setPc v).irq = s.irq := rfl
@[simp] theorem State.setPc_mem (s : State) (v : Word) :
    (s.setPc v).mem = s.mem := rfl
@[simp] theorem State.setPc_cart (s : State) (v : Word) :
    (s.setPc v).cart = s.cart := rfl
@[simp] theorem State.setPc_timer (s : State) (v : Word) :
    (s.setPc v).timer = s.timer := rfl
@[simp] theorem State.setPc_joypad (s : State) (v : Word) :
    (s.setPc v).joypad = s.joypad := rfl
@[simp] theorem State.setPc_serial (s : State) (v : Word) :
    (s.setPc v).serial = s.serial := rfl
@[simp] theorem State.setPc_ppu (s : State) (v : Word) :
    (s.setPc v).ppu = s.ppu := rfl
@[simp] theorem State.setPc_dma (s : State) (v : Word) :
    (s.setPc v).dma = s.dma := rfl
@[simp] theorem State.setPc_apu (s : State) (v : Word) :
    (s.setPc v).apu = s.apu := rfl
@[simp] theorem State.setPc_frameAcc (s : State) (v : Word) :
    (s.setPc v).frameAcc = s.frameAcc := rfl
@[simp] theorem State.setPc_frameTotal (s : State) (v : Word) :
    (s.setPc v).frameTotal = s.frameTotal := rfl

/-! ### `setSp` -/

@[simp] theorem State.setSp_config (s : State) (v : Word) :
    (s.setSp v).config = s.config := rfl
@[simp] theorem State.setSp_regs (s : State) (v : Word) :
    (s.setSp v).regs = { s.regs with sp := v } := rfl
@[simp] theorem State.setSp_cpu (s : State) (v : Word) :
    (s.setSp v).cpu = s.cpu := rfl
@[simp] theorem State.setSp_irq (s : State) (v : Word) :
    (s.setSp v).irq = s.irq := rfl
@[simp] theorem State.setSp_mem (s : State) (v : Word) :
    (s.setSp v).mem = s.mem := rfl
@[simp] theorem State.setSp_cart (s : State) (v : Word) :
    (s.setSp v).cart = s.cart := rfl
@[simp] theorem State.setSp_timer (s : State) (v : Word) :
    (s.setSp v).timer = s.timer := rfl
@[simp] theorem State.setSp_joypad (s : State) (v : Word) :
    (s.setSp v).joypad = s.joypad := rfl
@[simp] theorem State.setSp_serial (s : State) (v : Word) :
    (s.setSp v).serial = s.serial := rfl
@[simp] theorem State.setSp_ppu (s : State) (v : Word) :
    (s.setSp v).ppu = s.ppu := rfl
@[simp] theorem State.setSp_dma (s : State) (v : Word) :
    (s.setSp v).dma = s.dma := rfl
@[simp] theorem State.setSp_apu (s : State) (v : Word) :
    (s.setSp v).apu = s.apu := rfl
@[simp] theorem State.setSp_frameAcc (s : State) (v : Word) :
    (s.setSp v).frameAcc = s.frameAcc := rfl
@[simp] theorem State.setSp_frameTotal (s : State) (v : Word) :
    (s.setSp v).frameTotal = s.frameTotal := rfl

/-! ### `setReg8` -/

@[simp] theorem State.setReg8_config (s : State) (k : Reg8) (v : Byte) :
    (s.setReg8 k v).config = s.config := rfl
@[simp] theorem State.setReg8_regs (s : State) (k : Reg8) (v : Byte) :
    (s.setReg8 k v).regs = s.regs.set8 k v := rfl
@[simp] theorem State.setReg8_cpu (s : State) (k : Reg8) (v : Byte) :
    (s.setReg8 k v).cpu = s.cpu := rfl
@[simp] theorem State.setReg8_irq (s : State) (k : Reg8) (v : Byte) :
    (s.setReg8 k v).irq = s.irq := rfl
@[simp] theorem State.setReg8_mem (s : State) (k : Reg8) (v : Byte) :
    (s.setReg8 k v).mem = s.mem := rfl
@[simp] theorem State.setReg8_cart (s : State) (k : Reg8) (v : Byte) :
    (s.setReg8 k v).cart = s.cart := rfl
@[simp] theorem State.setReg8_timer (s : State) (k : Reg8) (v : Byte) :
    (s.setReg8 k v).timer = s.timer := rfl
@[simp] theorem State.setReg8_joypad (s : State) (k : Reg8) (v : Byte) :
    (s.setReg8 k v).joypad = s.joypad := rfl
@[simp] theorem State.setReg8_serial (s : State) (k : Reg8) (v : Byte) :
    (s.setReg8 k v).serial = s.serial := rfl
@[simp] theorem State.setReg8_ppu (s : State) (k : Reg8) (v : Byte) :
    (s.setReg8 k v).ppu = s.ppu := rfl
@[simp] theorem State.setReg8_dma (s : State) (k : Reg8) (v : Byte) :
    (s.setReg8 k v).dma = s.dma := rfl
@[simp] theorem State.setReg8_apu (s : State) (k : Reg8) (v : Byte) :
    (s.setReg8 k v).apu = s.apu := rfl
@[simp] theorem State.setReg8_frameAcc (s : State) (k : Reg8) (v : Byte) :
    (s.setReg8 k v).frameAcc = s.frameAcc := rfl
@[simp] theorem State.setReg8_frameTotal (s : State) (k : Reg8) (v : Byte) :
    (s.setReg8 k v).frameTotal = s.frameTotal := rfl

/-! ### `setReg16` -/

@[simp] theorem State.setReg16_config (s : State) (k : Reg16) (v : Word) :
    (s.setReg16 k v).config = s.config := rfl
@[simp] theorem State.setReg16_regs (s : State) (k : Reg16) (v : Word) :
    (s.setReg16 k v).regs = s.regs.set16 k v := rfl
@[simp] theorem State.setReg16_cpu (s : State) (k : Reg16) (v : Word) :
    (s.setReg16 k v).cpu = s.cpu := rfl
@[simp] theorem State.setReg16_irq (s : State) (k : Reg16) (v : Word) :
    (s.setReg16 k v).irq = s.irq := rfl
@[simp] theorem State.setReg16_mem (s : State) (k : Reg16) (v : Word) :
    (s.setReg16 k v).mem = s.mem := rfl
@[simp] theorem State.setReg16_cart (s : State) (k : Reg16) (v : Word) :
    (s.setReg16 k v).cart = s.cart := rfl
@[simp] theorem State.setReg16_timer (s : State) (k : Reg16) (v : Word) :
    (s.setReg16 k v).timer = s.timer := rfl
@[simp] theorem State.setReg16_joypad (s : State) (k : Reg16) (v : Word) :
    (s.setReg16 k v).joypad = s.joypad := rfl
@[simp] theorem State.setReg16_serial (s : State) (k : Reg16) (v : Word) :
    (s.setReg16 k v).serial = s.serial := rfl
@[simp] theorem State.setReg16_ppu (s : State) (k : Reg16) (v : Word) :
    (s.setReg16 k v).ppu = s.ppu := rfl
@[simp] theorem State.setReg16_dma (s : State) (k : Reg16) (v : Word) :
    (s.setReg16 k v).dma = s.dma := rfl
@[simp] theorem State.setReg16_apu (s : State) (k : Reg16) (v : Word) :
    (s.setReg16 k v).apu = s.apu := rfl
@[simp] theorem State.setReg16_frameAcc (s : State) (k : Reg16) (v : Word) :
    (s.setReg16 k v).frameAcc = s.frameAcc := rfl
@[simp] theorem State.setReg16_frameTotal (s : State) (k : Reg16) (v : Word) :
    (s.setReg16 k v).frameTotal = s.frameTotal := rfl

/-! ### `setFlags` -/

@[simp] theorem State.setFlags_config (s : State) (f : Flags) :
    (s.setFlags f).config = s.config := rfl
@[simp] theorem State.setFlags_regs (s : State) (f : Flags) :
    (s.setFlags f).regs = { s.regs with f := f } := rfl
@[simp] theorem State.setFlags_cpu (s : State) (f : Flags) :
    (s.setFlags f).cpu = s.cpu := rfl
@[simp] theorem State.setFlags_irq (s : State) (f : Flags) :
    (s.setFlags f).irq = s.irq := rfl
@[simp] theorem State.setFlags_mem (s : State) (f : Flags) :
    (s.setFlags f).mem = s.mem := rfl
@[simp] theorem State.setFlags_cart (s : State) (f : Flags) :
    (s.setFlags f).cart = s.cart := rfl
@[simp] theorem State.setFlags_timer (s : State) (f : Flags) :
    (s.setFlags f).timer = s.timer := rfl
@[simp] theorem State.setFlags_joypad (s : State) (f : Flags) :
    (s.setFlags f).joypad = s.joypad := rfl
@[simp] theorem State.setFlags_serial (s : State) (f : Flags) :
    (s.setFlags f).serial = s.serial := rfl
@[simp] theorem State.setFlags_ppu (s : State) (f : Flags) :
    (s.setFlags f).ppu = s.ppu := rfl
@[simp] theorem State.setFlags_dma (s : State) (f : Flags) :
    (s.setFlags f).dma = s.dma := rfl
@[simp] theorem State.setFlags_apu (s : State) (f : Flags) :
    (s.setFlags f).apu = s.apu := rfl
@[simp] theorem State.setFlags_frameAcc (s : State) (f : Flags) :
    (s.setFlags f).frameAcc = s.frameAcc := rfl
@[simp] theorem State.setFlags_frameTotal (s : State) (f : Flags) :
    (s.setFlags f).frameTotal = s.frameTotal := rfl

/-! ### `tick` -/

@[simp] theorem State.tick_config (s : State) (n : Nat) :
    (s.tick n).config = s.config := rfl
@[simp] theorem State.tick_regs (s : State) (n : Nat) :
    (s.tick n).regs = s.regs := rfl
@[simp] theorem State.tick_cpu (s : State) (n : Nat) :
    (s.tick n).cpu = { s.cpu with cycles := s.cpu.cycles + n } := rfl
@[simp] theorem State.tick_irq (s : State) (n : Nat) :
    (s.tick n).irq = s.irq := rfl
@[simp] theorem State.tick_mem (s : State) (n : Nat) :
    (s.tick n).mem = s.mem := rfl
@[simp] theorem State.tick_cart (s : State) (n : Nat) :
    (s.tick n).cart = s.cart := rfl
@[simp] theorem State.tick_timer (s : State) (n : Nat) :
    (s.tick n).timer = s.timer := rfl
@[simp] theorem State.tick_joypad (s : State) (n : Nat) :
    (s.tick n).joypad = s.joypad := rfl
@[simp] theorem State.tick_serial (s : State) (n : Nat) :
    (s.tick n).serial = s.serial := rfl
@[simp] theorem State.tick_ppu (s : State) (n : Nat) :
    (s.tick n).ppu = s.ppu := rfl
@[simp] theorem State.tick_dma (s : State) (n : Nat) :
    (s.tick n).dma = s.dma := rfl
@[simp] theorem State.tick_apu (s : State) (n : Nat) :
    (s.tick n).apu = s.apu := rfl
@[simp] theorem State.tick_frameAcc (s : State) (n : Nat) :
    (s.tick n).frameAcc = s.frameAcc := rfl
@[simp] theorem State.tick_frameTotal (s : State) (n : Nat) :
    (s.tick n).frameTotal = s.frameTotal := rfl

/-! ### `fetched` -/

@[simp] theorem State.fetched_config (s : State) (n : Nat) :
    (s.fetched n).config = s.config := rfl
@[simp] theorem State.fetched_regs (s : State) (n : Nat) :
    (s.fetched n).regs = { s.regs with pc := s.regs.pc + BitVec.ofNat 16 (if s.cpu.haltBug then n - 1 else n) } := rfl
@[simp] theorem State.fetched_cpu (s : State) (n : Nat) :
    (s.fetched n).cpu = { s.cpu with haltBug := false } := rfl
@[simp] theorem State.fetched_irq (s : State) (n : Nat) :
    (s.fetched n).irq = s.irq := rfl
@[simp] theorem State.fetched_mem (s : State) (n : Nat) :
    (s.fetched n).mem = s.mem := rfl
@[simp] theorem State.fetched_cart (s : State) (n : Nat) :
    (s.fetched n).cart = s.cart := rfl
@[simp] theorem State.fetched_timer (s : State) (n : Nat) :
    (s.fetched n).timer = s.timer := rfl
@[simp] theorem State.fetched_joypad (s : State) (n : Nat) :
    (s.fetched n).joypad = s.joypad := rfl
@[simp] theorem State.fetched_serial (s : State) (n : Nat) :
    (s.fetched n).serial = s.serial := rfl
@[simp] theorem State.fetched_ppu (s : State) (n : Nat) :
    (s.fetched n).ppu = s.ppu := rfl
@[simp] theorem State.fetched_dma (s : State) (n : Nat) :
    (s.fetched n).dma = s.dma := rfl
@[simp] theorem State.fetched_apu (s : State) (n : Nat) :
    (s.fetched n).apu = s.apu := rfl
@[simp] theorem State.fetched_frameAcc (s : State) (n : Nat) :
    (s.fetched n).frameAcc = s.frameAcc := rfl
@[simp] theorem State.fetched_frameTotal (s : State) (n : Nat) :
    (s.fetched n).frameTotal = s.frameTotal := rfl

/-! ### `popped` -/

@[simp] theorem State.popped_config (s : State) :
    (s.popped).config = s.config := rfl
@[simp] theorem State.popped_regs (s : State) :
    (s.popped).regs = { s.regs with sp := s.regs.sp + 2 } := rfl
@[simp] theorem State.popped_cpu (s : State) :
    (s.popped).cpu = s.cpu := rfl
@[simp] theorem State.popped_irq (s : State) :
    (s.popped).irq = s.irq := rfl
@[simp] theorem State.popped_mem (s : State) :
    (s.popped).mem = s.mem := rfl
@[simp] theorem State.popped_cart (s : State) :
    (s.popped).cart = s.cart := rfl
@[simp] theorem State.popped_timer (s : State) :
    (s.popped).timer = s.timer := rfl
@[simp] theorem State.popped_joypad (s : State) :
    (s.popped).joypad = s.joypad := rfl
@[simp] theorem State.popped_serial (s : State) :
    (s.popped).serial = s.serial := rfl
@[simp] theorem State.popped_ppu (s : State) :
    (s.popped).ppu = s.ppu := rfl
@[simp] theorem State.popped_dma (s : State) :
    (s.popped).dma = s.dma := rfl
@[simp] theorem State.popped_apu (s : State) :
    (s.popped).apu = s.apu := rfl
@[simp] theorem State.popped_frameAcc (s : State) :
    (s.popped).frameAcc = s.frameAcc := rfl
@[simp] theorem State.popped_frameTotal (s : State) :
    (s.popped).frameTotal = s.frameTotal := rfl

/-! ### `store` -/

@[simp] theorem State.store_config (s : State) (a : Nat) (v : Byte) :
    (s.store a v).config = s.config := rfl
@[simp] theorem State.store_regs (s : State) (a : Nat) (v : Byte) :
    (s.store a v).regs = s.regs := rfl
@[simp] theorem State.store_cpu (s : State) (a : Nat) (v : Byte) :
    (s.store a v).cpu = s.cpu := rfl
@[simp] theorem State.store_irq (s : State) (a : Nat) (v : Byte) :
    (s.store a v).irq = s.irq := rfl
@[simp] theorem State.store_mem (s : State) (a : Nat) (v : Byte) :
    (s.store a v).mem = s.mem.write a v := rfl
@[simp] theorem State.store_cart (s : State) (a : Nat) (v : Byte) :
    (s.store a v).cart = s.cart := rfl
@[simp] theorem State.store_timer (s : State) (a : Nat) (v : Byte) :
    (s.store a v).timer = s.timer := rfl
@[simp] theorem State.store_joypad (s : State) (a : Nat) (v : Byte) :
    (s.store a v).joypad = s.joypad := rfl
@[simp] theorem State.store_serial (s : State) (a : Nat) (v : Byte) :
    (s.store a v).serial = s.serial := rfl
@[simp] theorem State.store_ppu (s : State) (a : Nat) (v : Byte) :
    (s.store a v).ppu = s.ppu := rfl
@[simp] theorem State.store_dma (s : State) (a : Nat) (v : Byte) :
    (s.store a v).dma = s.dma := rfl
@[simp] theorem State.store_apu (s : State) (a : Nat) (v : Byte) :
    (s.store a v).apu = s.apu := rfl
@[simp] theorem State.store_frameAcc (s : State) (a : Nat) (v : Byte) :
    (s.store a v).frameAcc = s.frameAcc := rfl
@[simp] theorem State.store_frameTotal (s : State) (a : Nat) (v : Byte) :
    (s.store a v).frameTotal = s.frameTotal := rfl

/-! ### `request` -/

@[simp] theorem State.request_config (s : State) (k : IrqSource) :
    (s.request k).config = s.config := rfl
@[simp] theorem State.request_regs (s : State) (k : IrqSource) :
    (s.request k).regs = s.regs := rfl
@[simp] theorem State.request_cpu (s : State) (k : IrqSource) :
    (s.request k).cpu = s.cpu := rfl
@[simp] theorem State.request_irq (s : State) (k : IrqSource) :
    (s.request k).irq = s.irq.request k := rfl
@[simp] theorem State.request_mem (s : State) (k : IrqSource) :
    (s.request k).mem = s.mem := rfl
@[simp] theorem State.request_cart (s : State) (k : IrqSource) :
    (s.request k).cart = s.cart := rfl
@[simp] theorem State.request_timer (s : State) (k : IrqSource) :
    (s.request k).timer = s.timer := rfl
@[simp] theorem State.request_joypad (s : State) (k : IrqSource) :
    (s.request k).joypad = s.joypad := rfl
@[simp] theorem State.request_serial (s : State) (k : IrqSource) :
    (s.request k).serial = s.serial := rfl
@[simp] theorem State.request_ppu (s : State) (k : IrqSource) :
    (s.request k).ppu = s.ppu := rfl
@[simp] theorem State.request_dma (s : State) (k : IrqSource) :
    (s.request k).dma = s.dma := rfl
@[simp] theorem State.request_apu (s : State) (k : IrqSource) :
    (s.request k).apu = s.apu := rfl
@[simp] theorem State.request_frameAcc (s : State) (k : IrqSource) :
    (s.request k).frameAcc = s.frameAcc := rfl
@[simp] theorem State.request_frameTotal (s : State) (k : IrqSource) :
    (s.request k).frameTotal = s.frameTotal := rfl

/-! ### `raiseIllegal` -/

@[simp] theorem State.raiseIllegal_config (s : State) (op : Byte) :
    (s.raiseIllegal op).config = s.config := rfl
@[simp] theorem State.raiseIllegal_regs (s : State) (op : Byte) :
    (s.raiseIllegal op).regs = s.regs := rfl
@[simp] theorem State.raiseIllegal_cpu (s : State) (op : Byte) :
    (s.raiseIllegal op).cpu = { s.cpu with fault := some { opcode := op, addr := s.regs.pc }, haltBug := false } := rfl
@[simp] theorem State.raiseIllegal_irq (s : State) (op : Byte) :
    (s.raiseIllegal op).irq = s.irq := rfl
@[simp] theorem State.raiseIllegal_mem (s : State) (op : Byte) :
    (s.raiseIllegal op).mem = s.mem := rfl
@[simp] theorem State.raiseIllegal_cart (s : State) (op : Byte) :
    (s.raiseIllegal op).cart = s.cart := rfl
@[simp] theorem State.raiseIllegal_timer (s : State) (op : Byte) :
    (s.raiseIllegal op).timer = s.timer := rfl
@[simp] theorem State.raiseIllegal_joypad (s : State) (op : Byte) :
    (s.raiseIllegal op).joypad = s.joypad := rfl
@[simp] theorem State.raiseIllegal_serial (s : State) (op : Byte) :
    (s.raiseIllegal op).serial = s.serial := rfl
@[simp] theorem State.raiseIllegal_ppu (s : State) (op : Byte) :
    (s.raiseIllegal op).ppu = s.ppu := rfl
@[simp] theorem State.raiseIllegal_dma (s : State) (op : Byte) :
    (s.raiseIllegal op).dma = s.dma := rfl
@[simp] theorem State.raiseIllegal_apu (s : State) (op : Byte) :
    (s.raiseIllegal op).apu = s.apu := rfl
@[simp] theorem State.raiseIllegal_frameAcc (s : State) (op : Byte) :
    (s.raiseIllegal op).frameAcc = s.frameAcc := rfl
@[simp] theorem State.raiseIllegal_frameTotal (s : State) (op : Byte) :
    (s.raiseIllegal op).frameTotal = s.frameTotal := rfl

/-! ### `passed` -/

@[simp] theorem State.passed_config (s : State) (len n : Nat) :
    (s.passed len n).config = s.config := rfl
@[simp] theorem State.passed_regs (s : State) (len n : Nat) :
    (s.passed len n).regs = { s.regs with pc := s.regs.pc + BitVec.ofNat 16 len - (if s.cpu.haltBug then 1 else 0) } := rfl
@[simp] theorem State.passed_cpu (s : State) (len n : Nat) :
    (s.passed len n).cpu = { s.cpu with haltBug := false, cycles := s.cpu.cycles + n } := rfl
@[simp] theorem State.passed_irq (s : State) (len n : Nat) :
    (s.passed len n).irq = s.irq := rfl
@[simp] theorem State.passed_mem (s : State) (len n : Nat) :
    (s.passed len n).mem = s.mem := rfl
@[simp] theorem State.passed_cart (s : State) (len n : Nat) :
    (s.passed len n).cart = s.cart := rfl
@[simp] theorem State.passed_timer (s : State) (len n : Nat) :
    (s.passed len n).timer = s.timer := rfl
@[simp] theorem State.passed_joypad (s : State) (len n : Nat) :
    (s.passed len n).joypad = s.joypad := rfl
@[simp] theorem State.passed_serial (s : State) (len n : Nat) :
    (s.passed len n).serial = s.serial := rfl
@[simp] theorem State.passed_ppu (s : State) (len n : Nat) :
    (s.passed len n).ppu = s.ppu := rfl
@[simp] theorem State.passed_dma (s : State) (len n : Nat) :
    (s.passed len n).dma = s.dma := rfl
@[simp] theorem State.passed_apu (s : State) (len n : Nat) :
    (s.passed len n).apu = s.apu := rfl
@[simp] theorem State.passed_frameAcc (s : State) (len n : Nat) :
    (s.passed len n).frameAcc = s.frameAcc := rfl
@[simp] theorem State.passed_frameTotal (s : State) (len n : Nat) :
    (s.passed len n).frameTotal = s.frameTotal := rfl

/-! ### Registers -/

@[simp] theorem Regs.get8_set8_same (r : Regs) (k : Reg8) (v : Byte) : (r.set8 k v).get8 k = v := by
  cases k <;> rfl

theorem Regs.get8_set8_other (r : Regs) {k j : Reg8} (v : Byte) (h : j ≠ k) : (r.set8 k v).get8 j = r.get8 j := by
  cases k <;> cases j <;> first | rfl | exact absurd rfl h

theorem Regs.set8_get8 (r : Regs) (k : Reg8) : r.set8 k (r.get8 k) = r := by
  cases k <;> rfl

@[simp] theorem Regs.set8_pc (r : Regs) (k : Reg8) (v : Byte) : (r.set8 k v).pc = r.pc := by
  cases k <;> rfl

@[simp] theorem Regs.set8_sp (r : Regs) (k : Reg8) (v : Byte) : (r.set8 k v).sp = r.sp := by
  cases k <;> rfl

@[simp] theorem Regs.set8_f (r : Regs) (k : Reg8) (v : Byte) : (r.set8 k v).f = r.f := by
  cases k <;> rfl

@[simp] theorem Regs.set16_pc (r : Regs) (k : Reg16) (v : Word) : (r.set16 k v).pc = r.pc := by
  cases k <;> rfl

@[simp] theorem Regs.set16_f (r : Regs) (k : Reg16) (v : Word) : (r.set16 k v).f = r.f := by
  cases k <;> rfl

@[simp] theorem Regs.set16_a (r : Regs) (k : Reg16) (v : Word) : (r.set16 k v).a = r.a := by
  cases k <;> rfl

end Sys2Proof.Machine
end

