-- ==== Sys2Proof/Laws/Bus.lean ====
section
/-! SUPPORT. What one bus read depends on and what one bus write can do: a write leaves the CPU, the parameters and the
System counters alone, and neither access looks at the CPU. -/

namespace Sys2Proof.Machine

/-! ### The CPU is invisible to the bus -/

theorem State.readIo_cpuPart (s : State) (r : Regs) (c : Cpu) (k : IoReg) (a : Word) :
    State.readIo { s with regs := r, cpu := c } k a = s.readIo k a := by
  cases k <;> rfl

@[simp] theorem State.read_cpuPart (s : State) (r : Regs) (c : Cpu) (a : Word) :
    State.read { s with regs := r, cpu := c } a = s.read a := by
  unfold State.read
  cases regionOf a
  case io => exact State.readIo_cpuPart s r c (ioReg a) a
  all_goals rfl

theorem State.oamDma_cpuPart (s : State) (r : Regs) (c : Cpu) (v : Byte) (k : Nat) :
    State.oamDma { s with regs := r, cpu := c } v k = { State.oamDma s v k with regs := r, cpu := c } := by
  induction k generalizing s with
  | zero => rfl
  | succ k ih =>
    simp only [State.oamDma, State.read_cpuPart]
    exact ih (s.store (0xFE00 + (159 - k)) (s.read (wordOf v (BitVec.ofNat 8 (159 - k)))))

theorem State.evalStat_cpuPart (s : State) (r : Regs) (c : Cpu) :
    State.evalStat { s with regs := r, cpu := c } = { s.evalStat with regs := r, cpu := c } := by
  simp only [State.evalStat]
  split <;> rfl

theorem State.writeIo_cpuPart (s : State) (r : Regs) (c : Cpu) (k : IoReg) (a : Word) (v : Byte) :
    State.writeIo { s with regs := r, cpu := c } k a v = { s.writeIo k a v with regs := r, cpu := c } := by
  have viaStat (p : Ppu) : State.evalStat { s with regs := r, cpu := c, ppu := p } =
      { State.evalStat { s with ppu := p } with regs := r, cpu := c } :=
    State.evalStat_cpuPart { s with ppu := p } r c
  cases k
  case lcdc =>
    simp only [State.writeIo, State.writeLcdc]
    split
    · rfl
    · split <;> simp only [viaStat]
  case stat => simp only [State.writeIo, State.writeStat, viaStat]
  case lyc => simp only [State.writeIo, State.writeLyc, viaStat]
  case ly => simp only [State.writeIo, State.writeLy, viaStat]
  case dma =>
    simp only [State.writeIo, State.writeDma]
    exact State.oamDma_cpuPart { s with dma := v } r c v _
  all_goals rfl

/-- A bus write does not look at the CPU, and leaves it alone. -/
theorem State.write_cpuPart (s : State) (r : Regs) (c : Cpu) (a : Word) (v : Byte) :
    State.write { s with regs := r, cpu := c } a v = { s.write a v with regs := r, cpu := c } := by
  unfold State.write
  cases regionOf a
  case vram =>
    show (if s.vramLocked then _ else _) = _
    dsimp only
    split <;> rfl
  case oam =>
    show (if s.vramLocked then _ else _) = _
    dsimp only
    split <;> rfl
  case io => exact State.writeIo_cpuPart s r c (ioReg a) a v
  all_goals rfl

theorem State.write_regs_part (s : State) (r : Regs) (a : Word) (v : Byte) :
    State.write { s with regs := r } a v = { s.write a v with regs := r } := by
  have h := State.write_cpuPart s r s.cpu a v
  have h' := State.write_cpuPart s s.regs s.cpu a v
  rw [show ({ s with regs := r, cpu := s.cpu } : State) = { s with regs := r } from rfl] at h
  rw [show ({ s with regs := s.regs, cpu := s.cpu } : State) = s from rfl] at h'
  rw [h, h']

/-! ### What a write leaves alone -/

/-- The parts of the state no bus write touches. -/
structure Untouched (s t : State) : Prop where
  regs       : t.regs = s.regs
  cpu        : t.cpu = s.cpu
  config     : t.config = s.config
  frameAcc   : t.frameAcc = s.frameAcc
  frameTotal : t.frameTotal = s.frameTotal
  buttons    : t.joypad.pressed = s.joypad.pressed

theorem Untouched.refl (s : State) : Untouched s s := ⟨rfl, rfl, rfl, rfl, rfl, rfl⟩

theorem Untouched.trans {s t u : State} (h : Untouched s t) (g : Untouched t u) : Untouched s u :=
  ⟨g.regs.trans h.regs, g.cpu.trans h.cpu, g.config.trans h.config, g.frameAcc.trans h.frameAcc,
    g.frameTotal.trans h.frameTotal, g.buttons.trans h.buttons⟩

theorem State.oamDma_untouched (s : State) (v : Byte) (k : Nat) : Untouched s (State.oamDma s v k) := by
  induction k generalizing s with
  | zero => exact Untouched.refl s
  | succ k ih =>
    have h : Untouched s (s.store (0xFE00 + (159 - k)) (s.read (wordOf v (BitVec.ofNat 8 (159 - k))))) :=
      ⟨rfl, rfl, rfl, rfl, rfl, rfl⟩
    exact h.trans (ih _)

theorem State.evalStat_untouched (s : State) : Untouched s s.evalStat := by
  simp only [State.evalStat]
  split <;> exact ⟨rfl, rfl, rfl, rfl, rfl, rfl⟩

theorem State.writeIo_untouched (s : State) (k : IoReg) (a : Word) (v : Byte) : Untouched s (s.writeIo k a v) := by
  have viaStat (p : Ppu) : Untouched s (State.evalStat { s with ppu := p }) :=
    Untouched.trans (t := { s with ppu := p }) ⟨rfl, rfl, rfl, rfl, rfl, rfl⟩ (State.evalStat_untouched _)
  cases k
  case lcdc =>
    simp only [State.writeIo, State.writeLcdc]
    split
    · exact ⟨rfl, rfl, rfl, rfl, rfl, rfl⟩
    · split <;> exact viaStat _
  case stat => exact viaStat _
  case lyc => exact viaStat _
  case ly => exact viaStat _
  case dma =>
    simp only [State.writeIo, State.writeDma]
    exact Untouched.trans (t := { s with dma := v }) ⟨rfl, rfl, rfl, rfl, rfl, rfl⟩ (State.oamDma_untouched _ v _)
  all_goals exact ⟨rfl, rfl, rfl, rfl, rfl, rfl⟩

theorem State.write_untouched (s : State) (a : Word) (v : Byte) : Untouched s (s.write a v) := by
  unfold State.write
  cases regionOf a
  case vram =>
    dsimp only
    split <;> exact ⟨rfl, rfl, rfl, rfl, rfl, rfl⟩
  case oam =>
    dsimp only
    split <;> exact ⟨rfl, rfl, rfl, rfl, rfl, rfl⟩
  case io => exact State.writeIo_untouched s (ioReg a) a v
  all_goals exact ⟨rfl, rfl, rfl, rfl, rfl, rfl⟩

@[simp] theorem State.write_regs (s : State) (a : Word) (v : Byte) : (s.write a v).regs = s.regs :=
  (s.write_untouched a v).regs

@[simp] theorem State.write_cpu (s : State) (a : Word) (v : Byte) : (s.write a v).cpu = s.cpu :=
  (s.write_untouched a v).cpu

@[simp] theorem State.write_config (s : State) (a : Word) (v : Byte) : (s.write a v).config = s.config :=
  (s.write_untouched a v).config

@[simp] theorem State.write_frameAcc (s : State) (a : Word) (v : Byte) : (s.write a v).frameAcc = s.frameAcc :=
  (s.write_untouched a v).frameAcc

@[simp] theorem State.write_frameTotal (s : State) (a : Word) (v : Byte) : (s.write a v).frameTotal = s.frameTotal :=
  (s.write_untouched a v).frameTotal

/-! ### The updates of the CPU and the bus commute -/

@[simp] theorem State.read_passed (s : State) (len n : Nat) (a : Word) : (s.passed len n).read a = s.read a :=
  s.read_cpuPart _ _ a

@[simp] theorem State.read_fetched (s : State) (n : Nat) (a : Word) : (s.fetched n).read a = s.read a :=
  s.read_cpuPart _ _ a

@[simp] theorem State.read_tick (s : State) (n : Nat) (a : Word) : (s.tick n).read a = s.read a :=
  s.read_cpuPart s.regs _ a

@[simp] theorem State.read_regs_part (s : State) (r : Regs) (a : Word) : State.read { s with regs := r } a = s.read a :=
  s.read_cpuPart r s.cpu a

@[simp] theorem State.read_cpu_part (s : State) (c : Cpu) (a : Word) : State.read { s with cpu := c } a = s.read a :=
  s.read_cpuPart s.regs c a

theorem State.write_cpu_part (s : State) (c : Cpu) (a : Word) (v : Byte) :
    State.write { s with cpu := c } a v = { s.write a v with cpu := c } := by
  have h := State.write_cpuPart s s.regs c a v
  rw [show ({ s with regs := s.regs, cpu := c } : State) = { s with cpu := c } from rfl] at h
  rw [h]
  have := State.write_regs s a v
  cases hw : s.write a v
  simp_all

end Sys2Proof.Machine
end

