-- ==== Sys2Proof/Laws/Ops.lean ====
section
/-! SUPPORT. One lemma per shared operation and per instruction form: the next state it answers, written from
`State.passed`. -/

namespace Sys2Proof.Machine

/-! ### Passing an instruction -/

theorem State.fetched_tick (s : State) {len : Nat} (n : Nat) (h : 0 < len) :
    (s.fetched len).tick n = s.passed len n := by
  have e : s.regs.pc + BitVec.ofNat 16 (if s.cpu.haltBug then len - 1 else len) =
      s.regs.pc + BitVec.ofNat 16 len - (if s.cpu.haltBug then 1 else 0) := by
    cases s.cpu.haltBug
    · simp
    · obtain ⟨k, rfl⟩ := Nat.exists_eq_add_of_lt h
      apply BitVec.eq_of_toNat_eq
      simp
      omega
  simp only [State.fetched, State.tick, State.passed, e]

theorem State.write_tick (s : State) (a : Word) (v : Byte) (n : Nat) : (s.write a v).tick n = (s.tick n).write a v := by
  simp only [State.tick, State.write_cpu_part, State.write_cpu]

theorem State.setReg8_tick (s : State) (k : Reg8) (v : Byte) (n : Nat) : (s.setReg8 k v).tick n = (s.tick n).setReg8 k v :=
  rfl

theorem State.setReg16_tick (s : State) (k : Reg16) (v : Word) (n : Nat) :
    (s.setReg16 k v).tick n = (s.tick n).setReg16 k v := rfl

theorem State.setFlags_tick (s : State) (f : Flags) (n : Nat) : (s.setFlags f).tick n = (s.tick n).setFlags f := rfl

theorem State.setPc_tick (s : State) (v : Word) (n : Nat) : (s.setPc v).tick n = (s.tick n).setPc v := rfl

theorem State.setSp_tick (s : State) (v : Word) (n : Nat) : (s.setSp v).tick n = (s.tick n).setSp v := rfl

theorem State.write_setSp (s : State) (a : Word) (v : Byte) (w : Word) :
    (s.setSp w).write a v = (s.write a v).setSp w := by
  simp only [State.setSp, State.write_regs_part, State.write_regs]

/-! ### The stack -/

theorem hiByte_eq (v : Word) : hiByte v = BitVec.ofNat 8 (v.toNat / 256) := by
  apply BitVec.eq_of_toNat_eq
  simp [hiByte, Nat.shiftRight_eq_div_pow]

theorem loByte_eq (v : Word) : loByte v = BitVec.ofNat 8 (v.toNat % 256) := by
  apply BitVec.eq_of_toNat_eq
  simp [loByte]

theorem wordOf_toNat (hi lo : Byte) : (wordOf hi lo).toNat = 256 * hi.toNat + lo.toNat := by
  have h := hi.isLt
  have l := lo.isLt
  simp only [wordOf, BitVec.toNat_append]
  rw [Nat.shiftLeft_eq, Nat.mul_comm, ← Nat.two_pow_add_eq_or_of_lt (by omega)]

theorem wordOf_hiByte_loByte (v : Word) : wordOf (hiByte v) (loByte v) = v := by
  apply BitVec.eq_of_toNat_eq
  have := v.isLt
  rw [wordOf_toNat, hiByte_eq, loByte_eq]
  simp
  omega

/-- R330: a push is two bus writes, the high byte at SP − 1 and then the low byte at SP − 2, and SP down by two. -/
theorem State.push16_eq (s : State) (v : Word) :
    s.push16 v = ((s.setSp (s.regs.sp - 2)).write (s.regs.sp - 1) (hiByte v)).write (s.regs.sp - 2) (loByte v) := by
  have e : s.regs.sp - 1 - 1 = s.regs.sp - 2 := by bv_omega
  have twice (w w' : Word) : (s.setSp w).setSp w' = s.setSp w' := rfl
  simp only [State.push16, State.write_regs, State.setSp_regs, e]
  rw [← State.write_setSp, twice]

theorem State.push16_regs (s : State) (v : Word) : (s.push16 v).regs = { s.regs with sp := s.regs.sp - 2 } := by
  simp [State.push16_eq]

theorem State.push16_cpu (s : State) (v : Word) : (s.push16 v).cpu = s.cpu := by
  simp [State.push16_eq]

/-! ### The forms of the loads -/

theorem loadReg_next (dst src : Reg8) (s : State) :
    loadReg dst src s = .next ((s.passed 1 4).setReg8 dst (s.regs.get8 src)) := by
  rw [← State.fetched_tick s 4 (by decide)]
  cases src <;> rfl

theorem loadImm_next (dst : Reg8) (n : Byte) (s : State) : loadImm dst n s = .next ((s.passed 2 8).setReg8 dst n) := by
  rw [← State.fetched_tick s 8 (by decide)]
  rfl

theorem loadFromHl_next (dst : Reg8) (s : State) :
    loadFromHl dst s = .next ((s.passed 1 8).setReg8 dst (s.read s.regs.hl)) := by
  rw [← State.fetched_tick s 8 (by decide), ← State.read_fetched s 1]
  rfl

theorem storeToHl_next (src : Reg8) (s : State) :
    storeToHl src s = .next ((s.passed 1 8).write s.regs.hl (s.regs.get8 src)) := by
  rw [← State.fetched_tick s 8 (by decide), ← State.write_tick]
  cases src <;> rfl

theorem storeImmToHl_next (n : Byte) (s : State) :
    storeImmToHl n s = .next ((s.passed 2 12).write s.regs.hl n) := by
  rw [← State.fetched_tick s 12 (by decide), ← State.write_tick]
  rfl

theorem loadA_next {len : Nat} (cycles : Nat) (a : Word) (s : State) (h : 0 < len) :
    loadA len cycles a s = .next ((s.passed len cycles).setReg8 .a (s.read a)) := by
  rw [← State.fetched_tick s cycles h, ← State.read_fetched s len]
  rfl

theorem storeA_next {len : Nat} (cycles : Nat) (a : Word) (s : State) (h : 0 < len) :
    storeA len cycles a s = .next ((s.passed len cycles).write a s.regs.a) := by
  rw [← State.fetched_tick s cycles h, ← State.write_tick]
  rfl

theorem loadAStep_next (delta : Word) (s : State) :
    loadAStep delta s =
      .next (((s.passed 1 8).setReg8 .a (s.read s.regs.hl)).setReg16 .hl (s.regs.hl + delta)) := by
  rw [← State.fetched_tick s 8 (by decide), ← State.read_fetched s 1]
  rfl

theorem storeAStep_next (delta : Word) (s : State) :
    storeAStep delta s = .next (((s.passed 1 8).write s.regs.hl s.regs.a).setReg16 .hl (s.regs.hl + delta)) := by
  rw [← State.fetched_tick s 8 (by decide), ← State.write_tick]
  rfl

theorem loadImm16_next (dst : Reg16) (nn : Word) (s : State) :
    loadImm16 dst nn s = .next ((s.passed 3 12).setReg16 dst nn) := by
  rw [← State.fetched_tick s 12 (by decide)]
  rfl

theorem storeSp_next (nn : Word) (s : State) :
    storeSp nn s = .next (((s.passed 3 20).write nn (loByte s.regs.sp)).write (nn + 1) (hiByte s.regs.sp)) := by
  rw [← State.fetched_tick s 20 (by decide), ← State.write_tick, ← State.write_tick]
  rfl

theorem loadSpHl_next (s : State) : loadSpHl s = .next ((s.passed 1 8).setSp s.regs.hl) := by
  rw [← State.fetched_tick s 8 (by decide)]
  rfl

theorem loadHlSpOffset_next (e : Byte) (s : State) :
    loadHlSpOffset e s =
      .next (((s.passed 2 12).setReg16 .hl (addSpOffset s.regs.sp e).1).setFlags (addSpOffset s.regs.sp e).2) := by
  rw [← State.fetched_tick s 12 (by decide)]
  rfl

/-! ### Arithmetic, logic, increments -/

theorem aluReg_next (op : AluOp) (src : Reg8) (s : State) :
    aluReg op src s = .next (((s.passed 1 4).setReg8 .a (op.apply s.regs.a (s.regs.get8 src) s.regs.f).1).setFlags
      (op.apply s.regs.a (s.regs.get8 src) s.regs.f).2) := by
  rw [← State.fetched_tick s 4 (by decide)]
  cases src <;> rfl

theorem aluMem_next (op : AluOp) (s : State) :
    aluMem op s = .next (((s.passed 1 8).setReg8 .a (op.apply s.regs.a (s.read s.regs.hl) s.regs.f).1).setFlags
      (op.apply s.regs.a (s.read s.regs.hl) s.regs.f).2) := by
  rw [← State.fetched_tick s 8 (by decide), ← State.read_fetched s 1]
  rfl

theorem aluImm_next (op : AluOp) (n : Byte) (s : State) :
    aluImm op n s = .next (((s.passed 2 8).setReg8 .a (op.apply s.regs.a n s.regs.f).1).setFlags
      (op.apply s.regs.a n s.regs.f).2) := by
  rw [← State.fetched_tick s 8 (by decide)]
  rfl

theorem incReg_next (k : Reg8) (s : State) :
    incReg k s = .next (((s.passed 1 4).setReg8 k (inc8 (s.regs.get8 k) s.regs.f).1).setFlags
      (inc8 (s.regs.get8 k) s.regs.f).2) := by
  rw [← State.fetched_tick s 4 (by decide)]
  cases k <;> rfl

theorem decReg_next (k : Reg8) (s : State) :
    decReg k s = .next (((s.passed 1 4).setReg8 k (dec8 (s.regs.get8 k) s.regs.f).1).setFlags
      (dec8 (s.regs.get8 k) s.regs.f).2) := by
  rw [← State.fetched_tick s 4 (by decide)]
  cases k <;> rfl

theorem incMem_next (s : State) :
    incMem s = .next (((s.passed 1 12).write s.regs.hl (inc8 (s.read s.regs.hl) s.regs.f).1).setFlags
      (inc8 (s.read s.regs.hl) s.regs.f).2) := by
  rw [← State.fetched_tick s 12 (by decide), ← State.write_tick, ← State.read_fetched s 1]
  rfl

theorem decMem_next (s : State) :
    decMem s = .next (((s.passed 1 12).write s.regs.hl (dec8 (s.read s.regs.hl) s.regs.f).1).setFlags
      (dec8 (s.read s.regs.hl) s.regs.f).2) := by
  rw [← State.fetched_tick s 12 (by decide), ← State.write_tick, ← State.read_fetched s 1]
  rfl

theorem step16_next (k : Reg16) (delta : Word) (s : State) :
    step16 k delta s = .next ((s.passed 1 8).setReg16 k (s.regs.get16 k + delta)) := by
  rw [← State.fetched_tick s 8 (by decide)]
  cases k <;> rfl

theorem addToHl_next (k : Reg16) (s : State) :
    addToHl k s = .next (((s.passed 1 8).setReg16 .hl (addHl s.regs.hl (s.regs.get16 k) s.regs.f).1).setFlags
      (addHl s.regs.hl (s.regs.get16 k) s.regs.f).2) := by
  rw [← State.fetched_tick s 8 (by decide)]
  cases k <;> rfl

theorem addToSp_next (e : Byte) (s : State) :
    addToSp e s =
      .next (((s.passed 2 16).setSp (addSpOffset s.regs.sp e).1).setFlags (addSpOffset s.regs.sp e).2) := by
  rw [← State.fetched_tick s 16 (by decide)]
  rfl

/-! ### Rotates and bits -/

theorem rotateA_next (op : RotOp) (s : State) :
    rotateA op s = .next (((s.passed 1 4).setReg8 .a (op.resultA s.regs.a s.regs.f).1).setFlags
      (op.resultA s.regs.a s.regs.f).2) := by
  rw [← State.fetched_tick s 4 (by decide)]
  rfl

theorem rotateReg_next (op : RotOp) (k : Reg8) (s : State) :
    rotateReg op k s = .next (((s.passed 2 8).setReg8 k (op.result (s.regs.get8 k) s.regs.f).1).setFlags
      (op.result (s.regs.get8 k) s.regs.f).2) := by
  rw [← State.fetched_tick s 8 (by decide)]
  cases k <;> rfl

theorem rotateMem_next (op : RotOp) (s : State) :
    rotateMem op s = .next (((s.passed 2 16).write s.regs.hl (op.result (s.read s.regs.hl) s.regs.f).1).setFlags
      (op.result (s.read s.regs.hl) s.regs.f).2) := by
  rw [← State.fetched_tick s 16 (by decide), ← State.write_tick, ← State.read_fetched s 2]
  rfl

theorem testBitReg_next (b : Nat) (k : Reg8) (s : State) :
    testBitReg b k s = .next ((s.passed 2 8).setFlags (bitFlags (s.regs.get8 k) b s.regs.f)) := by
  rw [← State.fetched_tick s 8 (by decide)]
  cases k <;> rfl

theorem testBitMem_next (b : Nat) (s : State) :
    testBitMem b s = .next ((s.passed 2 12).setFlags (bitFlags (s.read s.regs.hl) b s.regs.f)) := by
  rw [← State.fetched_tick s 12 (by decide), ← State.read_fetched s 2]
  rfl

theorem resetBitReg_next (b : Nat) (k : Reg8) (s : State) :
    resetBitReg b k s = .next ((s.passed 2 8).setReg8 k (resBit (s.regs.get8 k) b)) := by
  rw [← State.fetched_tick s 8 (by decide)]
  cases k <;> rfl

theorem resetBitMem_next (b : Nat) (s : State) :
    resetBitMem b s = .next ((s.passed 2 16).write s.regs.hl (resBit (s.read s.regs.hl) b)) := by
  rw [← State.fetched_tick s 16 (by decide), ← State.write_tick, ← State.read_fetched s 2]
  rfl

theorem raiseBitReg_next (b : Nat) (k : Reg8) (s : State) :
    raiseBitReg b k s = .next ((s.passed 2 8).setReg8 k (setBit (s.regs.get8 k) b)) := by
  rw [← State.fetched_tick s 8 (by decide)]
  cases k <;> rfl

theorem raiseBitMem_next (b : Nat) (s : State) :
    raiseBitMem b s = .next ((s.passed 2 16).write s.regs.hl (setBit (s.read s.regs.hl) b)) := by
  rw [← State.fetched_tick s 16 (by decide), ← State.write_tick, ← State.read_fetched s 2]
  rfl

/-! ### Control flow -/

theorem State.push16_tick (s : State) (v : Word) (n : Nat) : (s.push16 v).tick n = (s.tick n).push16 v := by
  rw [State.push16_eq, State.push16_eq, State.write_tick, State.write_tick]
  rfl

@[simp] theorem State.stackTop_fetched (s : State) (n : Nat) : (s.fetched n).stackTop = s.stackTop := by
  rw [State.stackTop, State.read_fetched, State.read_fetched]
  rfl

theorem jump_next (nn : Word) (s : State) : jump nn s = .next ((s.passed 3 16).setPc nn) := by
  rw [← State.fetched_tick s 16 (by decide)]
  rfl

theorem jumpIf_next (cc : Cond) (nn : Word) (s : State) :
    jumpIf cc nn s = .next (if cc.holds s.regs.f then (s.passed 3 16).setPc nn else s.passed 3 12) := by
  rw [← State.fetched_tick s 16 (by decide), ← State.fetched_tick s 12 (by decide)]
  show (if cc.holds s.regs.f then _ else _) = _
  split <;> rfl

theorem jumpHl_next (s : State) : jumpHl s = .next ((s.passed 1 4).setPc s.regs.hl) := by
  rw [← State.fetched_tick s 4 (by decide)]
  rfl

theorem jumpRel_next (e : Byte) (s : State) :
    jumpRel e s = .next ((s.passed 2 12).setPc ((s.passed 2 12).regs.pc + sext8 e)) := by
  rw [← State.fetched_tick s 12 (by decide)]
  rfl

theorem jumpRelIf_next (cc : Cond) (e : Byte) (s : State) :
    jumpRelIf cc e s = .next (if cc.holds s.regs.f then (s.passed 2 12).setPc ((s.passed 2 12).regs.pc + sext8 e)
      else s.passed 2 8) := by
  rw [← State.fetched_tick s 12 (by decide), ← State.fetched_tick s 8 (by decide)]
  show (if cc.holds s.regs.f then _ else _) = _
  split <;> rfl

theorem call_next (nn : Word) (s : State) :
    call nn s = .next (((s.passed 3 24).push16 (s.passed 3 24).regs.pc).setPc nn) := by
  rw [← State.fetched_tick s 24 (by decide), ← State.push16_tick]
  rfl

theorem callIf_next (cc : Cond) (nn : Word) (s : State) :
    callIf cc nn s = .next (if cc.holds s.regs.f then ((s.passed 3 24).push16 (s.passed 3 24).regs.pc).setPc nn
      else s.passed 3 12) := by
  rw [← State.fetched_tick s 24 (by decide), ← State.fetched_tick s 12 (by decide), ← State.push16_tick]
  show (if cc.holds s.regs.f then _ else _) = _
  split <;> rfl

theorem restart_next (target : Word) (s : State) :
    restart target s = .next (((s.passed 1 16).push16 (s.passed 1 16).regs.pc).setPc target) := by
  rw [← State.fetched_tick s 16 (by decide), ← State.push16_tick]
  rfl

theorem returnTop_next (s : State) :
    returnTop s = .next (((s.passed 1 16).setSp (s.regs.sp + 2)).setPc s.stackTop) := by
  rw [← State.fetched_tick s 16 (by decide), ← State.stackTop_fetched s 1]
  rfl

theorem returnIf_next (cc : Cond) (s : State) :
    returnIf cc s = .next (if cc.holds s.regs.f then ((s.passed 1 20).setSp (s.regs.sp + 2)).setPc s.stackTop
      else s.passed 1 8) := by
  rw [← State.fetched_tick s 20 (by decide), ← State.fetched_tick s 8 (by decide), ← State.stackTop_fetched s 1]
  show (if cc.holds s.regs.f then _ else _) = _
  split <;> rfl

theorem push_next (k : StackReg) (s : State) : push k s = .next ((s.passed 1 16).push16 (s.regs.getStack k)) := by
  rw [← State.fetched_tick s 16 (by decide), ← State.push16_tick]
  cases k <;> rfl

theorem pop_next (k : StackReg) (s : State) :
    pop k s = .next { s.passed 1 12 with
      regs := ({ (s.passed 1 12).regs with sp := s.regs.sp + 2 } : Regs).setStack k s.stackTop } := by
  rw [← State.fetched_tick s 12 (by decide), ← State.stackTop_fetched s 1]
  rfl

end Sys2Proof.Machine
end

