-- ==== Sys2Proof/Laws/Exec.lean ====
section
/-! SUPPORT. What an instruction can do, said once: it ends in a next state, reached from the state before by bus writes and
changes of the CPU; and what it leaves in the CPU's control state. -/

namespace Sys2Proof.Machine

/-- `t` is reached from `s` by changes of the CPU (registers, control state) and bus writes. -/
inductive Effect (s : State) : State → Prop where
  | refl : Effect s s
  | cpu {t : State} (h : Effect s t) (r : Regs) (c : Cpu) : Effect s { t with regs := r, cpu := c }
  | write {t : State} (h : Effect s t) (a : Word) (v : Byte) : Effect s (t.write a v)

/-- A property that CPU changes and bus writes keep is kept by an effect. -/
theorem Effect.keeps {P : State → Prop} {s t : State} (h : Effect s t)
    (cpu : ∀ (u : State) (r : Regs) (c : Cpu), P u → P { u with regs := r, cpu := c })
    (write : ∀ (u : State) (a : Word) (v : Byte), P u → P (u.write a v)) (hs : P s) : P t := by
  induction h with
  | refl => exact hs
  | cpu _ r c ih => exact cpu _ r c ih
  | write _ a v ih => exact write _ a v ih

theorem Effect.passed (s : State) (len n : Nat) : Effect s (s.passed len n) := Effect.refl.cpu _ _

theorem Effect.setReg8 {s t : State} (h : Effect s t) (k : Reg8) (v : Byte) : Effect s (t.setReg8 k v) :=
  h.cpu (t.regs.set8 k v) t.cpu

theorem Effect.setReg16 {s t : State} (h : Effect s t) (k : Reg16) (v : Word) : Effect s (t.setReg16 k v) :=
  h.cpu (t.regs.set16 k v) t.cpu

theorem Effect.setFlags {s t : State} (h : Effect s t) (f : Flags) : Effect s (t.setFlags f) :=
  h.cpu _ t.cpu

theorem Effect.setPc {s t : State} (h : Effect s t) (v : Word) : Effect s (t.setPc v) := h.cpu _ t.cpu

theorem Effect.setSp {s t : State} (h : Effect s t) (v : Word) : Effect s (t.setSp v) := h.cpu _ t.cpu

theorem Effect.push16 {s t : State} (h : Effect s t) (v : Word) : Effect s (t.push16 v) := by
  rw [State.push16_eq]
  exact ((h.setSp _).write _ _).write _ _

/-- The control state between instructions: everything of the CPU but `halt_bug` and `cycles`. -/
def Cpu.control (c : Cpu) : Bool × Fin 3 × Bool × Bool × Option IllegalOpcode :=
  (c.ime, c.eiDelay, c.halted, c.stopped, c.fault)

/-- The form ends in a next state, an effect of `s`, that keeps the control state and counts 4 to 24 cycles. -/
def Ends (s : State) (r : Result State) : Prop :=
  ∃ t, r = .next t ∧ Effect s t ∧ t.cpu.control = s.cpu.control ∧
    ∃ n, 1 ≤ n ∧ n ≤ 6 ∧ t.cpu.cycles = s.cpu.cycles + 4 * n

theorem loadReg_ends (dst src : Reg8) (s : State) : Ends s (loadReg dst src s) :=
  ⟨_, loadReg_next _ _ _, ((Effect.passed s _ _).setReg8 _ _),
    by simp [Cpu.control], ⟨1, by decide, by decide, by simp⟩⟩

theorem loadImm_ends (dst : Reg8) (n : Byte) (s : State) : Ends s (loadImm dst n s) :=
  ⟨_, loadImm_next _ _ _, ((Effect.passed s _ _).setReg8 _ _),
    by simp [Cpu.control], ⟨2, by decide, by decide, by simp⟩⟩

theorem loadFromHl_ends (dst : Reg8) (s : State) : Ends s (loadFromHl dst s) :=
  ⟨_, loadFromHl_next _ _, ((Effect.passed s _ _).setReg8 _ _),
    by simp [Cpu.control], ⟨2, by decide, by decide, by simp⟩⟩

theorem storeToHl_ends (src : Reg8) (s : State) : Ends s (storeToHl src s) :=
  ⟨_, storeToHl_next _ _, ((Effect.passed s _ _).write _ _),
    by simp [Cpu.control], ⟨2, by decide, by decide, by simp⟩⟩

theorem storeImmToHl_ends (n : Byte) (s : State) : Ends s (storeImmToHl n s) :=
  ⟨_, storeImmToHl_next _ _, ((Effect.passed s _ _).write _ _),
    by simp [Cpu.control], ⟨3, by decide, by decide, by simp⟩⟩

theorem loadAStep_ends (delta : Word) (s : State) : Ends s (loadAStep delta s) :=
  ⟨_, loadAStep_next _ _, (((Effect.passed s _ _).setReg8 _ _).setReg16 _ _),
    by simp [Cpu.control], ⟨2, by decide, by decide, by simp⟩⟩

theorem storeAStep_ends (delta : Word) (s : State) : Ends s (storeAStep delta s) :=
  ⟨_, storeAStep_next _ _, (((Effect.passed s _ _).write _ _).setReg16 _ _),
    by simp [Cpu.control], ⟨2, by decide, by decide, by simp⟩⟩

theorem loadImm16_ends (dst : Reg16) (nn : Word) (s : State) : Ends s (loadImm16 dst nn s) :=
  ⟨_, loadImm16_next _ _ _, ((Effect.passed s _ _).setReg16 _ _),
    by simp [Cpu.control], ⟨3, by decide, by decide, by simp⟩⟩

theorem storeSp_ends (nn : Word) (s : State) : Ends s (storeSp nn s) :=
  ⟨_, storeSp_next _ _, (((Effect.passed s _ _).write _ _).write _ _),
    by simp [Cpu.control], ⟨5, by decide, by decide, by simp⟩⟩

theorem loadSpHl_ends (s : State) : Ends s (loadSpHl s) :=
  ⟨_, loadSpHl_next  _, ((Effect.passed s _ _).setSp _),
    by simp [Cpu.control], ⟨2, by decide, by decide, by simp⟩⟩

theorem loadHlSpOffset_ends (e : Byte) (s : State) : Ends s (loadHlSpOffset e s) :=
  ⟨_, loadHlSpOffset_next _ _, (((Effect.passed s _ _).setReg16 _ _).setFlags _),
    by simp [Cpu.control], ⟨3, by decide, by decide, by simp⟩⟩

theorem aluReg_ends (op : AluOp) (src : Reg8) (s : State) : Ends s (aluReg op src s) :=
  ⟨_, aluReg_next _ _ _, (((Effect.passed s _ _).setReg8 _ _).setFlags _),
    by simp [Cpu.control], ⟨1, by decide, by decide, by simp⟩⟩

theorem aluMem_ends (op : AluOp) (s : State) : Ends s (aluMem op s) :=
  ⟨_, aluMem_next _ _, (((Effect.passed s _ _).setReg8 _ _).setFlags _),
    by simp [Cpu.control], ⟨2, by decide, by decide, by simp⟩⟩

theorem aluImm_ends (op : AluOp) (n : Byte) (s : State) : Ends s (aluImm op n s) :=
  ⟨_, aluImm_next _ _ _, (((Effect.passed s _ _).setReg8 _ _).setFlags _),
    by simp [Cpu.control], ⟨2, by decide, by decide, by simp⟩⟩

theorem incReg_ends (k : Reg8) (s : State) : Ends s (incReg k s) :=
  ⟨_, incReg_next _ _, (((Effect.passed s _ _).setReg8 _ _).setFlags _),
    by simp [Cpu.control], ⟨1, by decide, by decide, by simp⟩⟩

theorem decReg_ends (k : Reg8) (s : State) : Ends s (decReg k s) :=
  ⟨_, decReg_next _ _, (((Effect.passed s _ _).setReg8 _ _).setFlags _),
    by simp [Cpu.control], ⟨1, by decide, by decide, by simp⟩⟩

theorem incMem_ends (s : State) : Ends s (incMem s) :=
  ⟨_, incMem_next  _, (((Effect.passed s _ _).write _ _).setFlags _),
    by simp [Cpu.control], ⟨3, by decide, by decide, by simp⟩⟩

theorem decMem_ends (s : State) : Ends s (decMem s) :=
  ⟨_, decMem_next  _, (((Effect.passed s _ _).write _ _).setFlags _),
    by simp [Cpu.control], ⟨3, by decide, by decide, by simp⟩⟩

theorem step16_ends (k : Reg16) (delta : Word) (s : State) : Ends s (step16 k delta s) :=
  ⟨_, step16_next _ _ _, ((Effect.passed s _ _).setReg16 _ _),
    by simp [Cpu.control], ⟨2, by decide, by decide, by simp⟩⟩

theorem addToHl_ends (k : Reg16) (s : State) : Ends s (addToHl k s) :=
  ⟨_, addToHl_next _ _, (((Effect.passed s _ _).setReg16 _ _).setFlags _),
    by simp [Cpu.control], ⟨2, by decide, by decide, by simp⟩⟩

theorem addToSp_ends (e : Byte) (s : State) : Ends s (addToSp e s) :=
  ⟨_, addToSp_next _ _, (((Effect.passed s _ _).setSp _).setFlags _),
    by simp [Cpu.control], ⟨4, by decide, by decide, by simp⟩⟩

theorem rotateA_ends (op : RotOp) (s : State) : Ends s (rotateA op s) :=
  ⟨_, rotateA_next _ _, (((Effect.passed s _ _).setReg8 _ _).setFlags _),
    by simp [Cpu.control], ⟨1, by decide, by decide, by simp⟩⟩

theorem rotateReg_ends (op : RotOp) (k : Reg8) (s : State) : Ends s (rotateReg op k s) :=
  ⟨_, rotateReg_next _ _ _, (((Effect.passed s _ _).setReg8 _ _).setFlags _),
    by simp [Cpu.control], ⟨2, by decide, by decide, by simp⟩⟩

theorem rotateMem_ends (op : RotOp) (s : State) : Ends s (rotateMem op s) :=
  ⟨_, rotateMem_next _ _, (((Effect.passed s _ _).write _ _).setFlags _),
    by simp [Cpu.control], ⟨4, by decide, by decide, by simp⟩⟩

theorem testBitReg_ends (b : Nat) (k : Reg8) (s : State) : Ends s (testBitReg b k s) :=
  ⟨_, testBitReg_next _ _ _, ((Effect.passed s _ _).setFlags _),
    by simp [Cpu.control], ⟨2, by decide, by decide, by simp⟩⟩

theorem testBitMem_ends (b : Nat) (s : State) : Ends s (testBitMem b s) :=
  ⟨_, testBitMem_next _ _, ((Effect.passed s _ _).setFlags _),
    by simp [Cpu.control], ⟨3, by decide, by decide, by simp⟩⟩

theorem resetBitReg_ends (b : Nat) (k : Reg8) (s : State) : Ends s (resetBitReg b k s) :=
  ⟨_, resetBitReg_next _ _ _, ((Effect.passed s _ _).setReg8 _ _),
    by simp [Cpu.control], ⟨2, by decide, by decide, by simp⟩⟩

theorem resetBitMem_ends (b : Nat) (s : State) : Ends s (resetBitMem b s) :=
  ⟨_, resetBitMem_next _ _, ((Effect.passed s _ _).write _ _),
    by simp [Cpu.control], ⟨4, by decide, by decide, by simp⟩⟩

theorem raiseBitReg_ends (b : Nat) (k : Reg8) (s : State) : Ends s (raiseBitReg b k s) :=
  ⟨_, raiseBitReg_next _ _ _, ((Effect.passed s _ _).setReg8 _ _),
    by simp [Cpu.control], ⟨2, by decide, by decide, by simp⟩⟩

theorem raiseBitMem_ends (b : Nat) (s : State) : Ends s (raiseBitMem b s) :=
  ⟨_, raiseBitMem_next _ _, ((Effect.passed s _ _).write _ _),
    by simp [Cpu.control], ⟨4, by decide, by decide, by simp⟩⟩

theorem jump_ends (nn : Word) (s : State) : Ends s (jump nn s) :=
  ⟨_, jump_next _ _, ((Effect.passed s _ _).setPc _),
    by simp [Cpu.control], ⟨4, by decide, by decide, by simp⟩⟩

theorem jumpHl_ends (s : State) : Ends s (jumpHl s) :=
  ⟨_, jumpHl_next  _, ((Effect.passed s _ _).setPc _),
    by simp [Cpu.control], ⟨1, by decide, by decide, by simp⟩⟩

theorem jumpRel_ends (e : Byte) (s : State) : Ends s (jumpRel e s) :=
  ⟨_, jumpRel_next _ _, ((Effect.passed s _ _).setPc _),
    by simp [Cpu.control], ⟨3, by decide, by decide, by simp⟩⟩

theorem call_ends (nn : Word) (s : State) : Ends s (call nn s) :=
  ⟨_, call_next _ _, (((Effect.passed s _ _).push16 _).setPc _),
    by simp [Cpu.control, State.push16_cpu], ⟨6, by decide, by decide, by simp [State.push16_cpu]⟩⟩

theorem restart_ends (target : Word) (s : State) : Ends s (restart target s) :=
  ⟨_, restart_next _ _, (((Effect.passed s _ _).push16 _).setPc _),
    by simp [Cpu.control, State.push16_cpu], ⟨4, by decide, by decide, by simp [State.push16_cpu]⟩⟩

theorem returnTop_ends (s : State) : Ends s (returnTop s) :=
  ⟨_, returnTop_next  _, (((Effect.passed s _ _).setSp _).setPc _),
    by simp [Cpu.control], ⟨4, by decide, by decide, by simp⟩⟩

theorem push_ends (k : StackReg) (s : State) : Ends s (push k s) :=
  ⟨_, push_next _ _, ((Effect.passed s _ _).push16 _),
    by simp [Cpu.control, State.push16_cpu], ⟨4, by decide, by decide, by simp [State.push16_cpu]⟩⟩

theorem pop_ends (k : StackReg) (s : State) : Ends s (pop k s) :=
  ⟨_, pop_next _ _, ((Effect.passed s _ _).cpu _ _),
    by simp [Cpu.control], ⟨3, by decide, by decide, by simp⟩⟩

theorem loadA_ends {len : Nat} (k : Nat) (a : Word) (s : State) (h : 0 < len) (lo : 1 ≤ k) (hi : k ≤ 6) :
    Ends s (loadA len (4 * k) a s) :=
  ⟨_, loadA_next _ _ _ h, ((Effect.passed s _ _).setReg8 _ _),
    by simp [Cpu.control], ⟨k, lo, hi, by simp⟩⟩

theorem storeA_ends {len : Nat} (k : Nat) (a : Word) (s : State) (h : 0 < len) (lo : 1 ≤ k) (hi : k ≤ 6) :
    Ends s (storeA len (4 * k) a s) :=
  ⟨_, storeA_next _ _ _ h, ((Effect.passed s _ _).write _ _),
    by simp [Cpu.control], ⟨k, lo, hi, by simp⟩⟩

theorem jumpIf_ends (cc : Cond) (nn : Word) (s : State) : Ends s (jumpIf cc nn s) := by
  refine ⟨_, jumpIf_next _ _ _, ?_⟩
  split
  · exact ⟨((Effect.passed s _ _).setPc _), by simp [Cpu.control], ⟨4, by decide, by decide, by simp⟩⟩
  · exact ⟨Effect.passed s _ _, by simp [Cpu.control], ⟨3, by decide, by decide, by simp⟩⟩

theorem jumpRelIf_ends (cc : Cond) (e : Byte) (s : State) : Ends s (jumpRelIf cc e s) := by
  refine ⟨_, jumpRelIf_next _ _ _, ?_⟩
  split
  · exact ⟨((Effect.passed s _ _).setPc _), by simp [Cpu.control], ⟨3, by decide, by decide, by simp⟩⟩
  · exact ⟨Effect.passed s _ _, by simp [Cpu.control], ⟨2, by decide, by decide, by simp⟩⟩

theorem callIf_ends (cc : Cond) (nn : Word) (s : State) : Ends s (callIf cc nn s) := by
  refine ⟨_, callIf_next _ _ _, ?_⟩
  split
  · exact ⟨(((Effect.passed s _ _).push16 _).setPc _), by simp [Cpu.control, State.push16_cpu], ⟨6, by decide, by decide, by simp [State.push16_cpu]⟩⟩
  · exact ⟨Effect.passed s _ _, by simp [Cpu.control], ⟨3, by decide, by decide, by simp⟩⟩

theorem returnIf_ends (cc : Cond) (s : State) : Ends s (returnIf cc s) := by
  refine ⟨_, returnIf_next _ _, ?_⟩
  split
  · exact ⟨(((Effect.passed s _ _).setSp _).setPc _), by simp [Cpu.control], ⟨5, by decide, by decide, by simp⟩⟩
  · exact ⟨Effect.passed s _ _, by simp [Cpu.control], ⟨2, by decide, by decide, by simp⟩⟩

theorem writeFlags_ends (g : Flags → Flags) (s : State) : Ends s (writeFlags g s) :=
  ⟨_, rfl, (((Effect.refl (s := s)).cpu (s.fetched 1).regs (s.fetched 1).cpu).setFlags _).cpu _ ((s.fetched 1).tick 4).cpu,
    rfl, 1, by decide, by decide, rfl⟩

theorem complementA_ends (s : State) : Ends s (complementA s) :=
  ⟨_, rfl, (Effect.refl (s := s)).cpu _ ((s.fetched 1).tick 4).cpu, rfl, 1, by decide, by decide, rfl⟩

theorem decimalAdjust_ends (s : State) : Ends s (decimalAdjust s) :=
  ⟨_, rfl, (Effect.refl (s := s)).cpu _ ((s.fetched 1).tick 4).cpu, rfl, 1, by decide, by decide, rfl⟩

theorem execNop_ends (s : State) : Ends s (execNop s) :=
  ⟨_, rfl, (Effect.refl (s := s)).cpu _ ((s.fetched 1).tick 4).cpu, rfl, 1, by decide, by decide, rfl⟩

theorem execStop_ends (n : Byte) (s : State) : Ends s (execStop n s) :=
  ⟨_, rfl, (Effect.refl (s := s)).cpu _ ((s.fetched 2).tick 4).cpu, rfl, 1, by decide, by decide, rfl⟩

theorem execPrefixCb_ends (op2 : Byte) (s : State) : Ends s (execPrefixCb op2 s) := by
  unfold execPrefixCb
  dsimp only
  split
  · exact rotateReg_ends _ _ s
  · exact rotateMem_ends _ s
  · exact testBitReg_ends _ _ s
  · exact testBitMem_ends _ s
  · exact resetBitReg_ends _ _ s
  · exact resetBitMem_ends _ s
  · exact raiseBitReg_ends _ _ s
  · exact raiseBitMem_ends _ s

/-! ### Every instruction -/

/-- The instructions that change the CPU's control state on purpose: HALT, DI, EI, RETI and the illegal opcodes. -/
def Instr.isControl : Instr → Bool
  | .halt => true
  | .di => true
  | .ei => true
  | .reti => true
  | .illegalD3 => true
  | .illegalDB => true
  | .illegalDD => true
  | .illegalE3 => true
  | .illegalE4 => true
  | .illegalEB => true
  | .illegalEC => true
  | .illegalED => true
  | .illegalF4 => true
  | .illegalFC => true
  | .illegalFD => true
  | _ => false

/-- An instruction that is no control instruction ends in a next state, by bus writes and CPU changes that keep the control
state, counting 4 to 24 cycles. -/
theorem exec_ends : ∀ (i : Sys2Proof.Instr) (s : State), Instr.isControl i = false → Ends s (exec i s)
  | .nop, s, _ => execNop_ends s
  | .ldBcD16 nn, s, _ => loadImm16_ends .bc nn s
  | .ldAtBcA, s, _ => storeA_ends 2 s.regs.bc s (by decide) (by decide) (by decide)
  | .incBc, s, _ => step16_ends .bc 1 s
  | .incB, s, _ => incReg_ends .b s
  | .decB, s, _ => decReg_ends .b s
  | .ldBD8 n, s, _ => loadImm_ends .b n s
  | .rlca, s, _ => rotateA_ends .rlc s
  | .ldAtA16Sp nn, s, _ => storeSp_ends nn s
  | .addHlBc, s, _ => addToHl_ends .bc s
  | .ldAAtBc, s, _ => loadA_ends 2 s.regs.bc s (by decide) (by decide) (by decide)
  | .decBc, s, _ => step16_ends .bc (-1) s
  | .incC, s, _ => incReg_ends .c s
  | .decC, s, _ => decReg_ends .c s
  | .ldCD8 n, s, _ => loadImm_ends .c n s
  | .rrca, s, _ => rotateA_ends .rrc s
  | .stop n, s, _ => execStop_ends n s
  | .ldDeD16 nn, s, _ => loadImm16_ends .de nn s
  | .ldAtDeA, s, _ => storeA_ends 2 s.regs.de s (by decide) (by decide) (by decide)
  | .incDe, s, _ => step16_ends .de 1 s
  | .incD, s, _ => incReg_ends .d s
  | .decD, s, _ => decReg_ends .d s
  | .ldDD8 n, s, _ => loadImm_ends .d n s
  | .rla, s, _ => rotateA_ends .rl s
  | .jrE8 e, s, _ => jumpRel_ends e s
  | .addHlDe, s, _ => addToHl_ends .de s
  | .ldAAtDe, s, _ => loadA_ends 2 s.regs.de s (by decide) (by decide) (by decide)
  | .decDe, s, _ => step16_ends .de (-1) s
  | .incE, s, _ => incReg_ends .e s
  | .decE, s, _ => decReg_ends .e s
  | .ldED8 n, s, _ => loadImm_ends .e n s
  | .rra, s, _ => rotateA_ends .rr s
  | .jrNzE8 e, s, _ => jumpRelIf_ends .nz e s
  | .ldHlD16 nn, s, _ => loadImm16_ends .hl nn s
  | .ldAtHlIncA, s, _ => storeAStep_ends 1 s
  | .incHl, s, _ => step16_ends .hl 1 s
  | .incH, s, _ => incReg_ends .h s
  | .decH, s, _ => decReg_ends .h s
  | .ldHD8 n, s, _ => loadImm_ends .h n s
  | .daa, s, _ => decimalAdjust_ends s
  | .jrZE8 e, s, _ => jumpRelIf_ends .z e s
  | .addHlHl, s, _ => addToHl_ends .hl s
  | .ldAAtHlInc, s, _ => loadAStep_ends 1 s
  | .decHl, s, _ => step16_ends .hl (-1) s
  | .incL, s, _ => incReg_ends .l s
  | .decL, s, _ => decReg_ends .l s
  | .ldLD8 n, s, _ => loadImm_ends .l n s
  | .cpl, s, _ => complementA_ends s
  | .jrNcE8 e, s, _ => jumpRelIf_ends .nc e s
  | .ldSpD16 nn, s, _ => loadImm16_ends .sp nn s
  | .ldAtHlDecA, s, _ => storeAStep_ends (-1) s
  | .incSp, s, _ => step16_ends .sp 1 s
  | .incAtHl, s, _ => incMem_ends s
  | .decAtHl, s, _ => decMem_ends s
  | .ldAtHlD8 n, s, _ => storeImmToHl_ends n s
  | .scf, s, _ => writeFlags_ends scfFlags s
  | .jrCE8 e, s, _ => jumpRelIf_ends .c e s
  | .addHlSp, s, _ => addToHl_ends .sp s
  | .ldAAtHlDec, s, _ => loadAStep_ends (-1) s
  | .decSp, s, _ => step16_ends .sp (-1) s
  | .incA, s, _ => incReg_ends .a s
  | .decA, s, _ => decReg_ends .a s
  | .ldAD8 n, s, _ => loadImm_ends .a n s
  | .ccf, s, _ => writeFlags_ends ccfFlags s
  | .ldBB, s, _ => loadReg_ends .b .b s
  | .ldBC, s, _ => loadReg_ends .b .c s
  | .ldBD, s, _ => loadReg_ends .b .d s
  | .ldBE, s, _ => loadReg_ends .b .e s
  | .ldBH, s, _ => loadReg_ends .b .h s
  | .ldBL, s, _ => loadReg_ends .b .l s
  | .ldBAtHl, s, _ => loadFromHl_ends .b s
  | .ldBA, s, _ => loadReg_ends .b .a s
  | .ldCB, s, _ => loadReg_ends .c .b s
  | .ldCC, s, _ => loadReg_ends .c .c s
  | .ldCD, s, _ => loadReg_ends .c .d s
  | .ldCE, s, _ => loadReg_ends .c .e s
  | .ldCH, s, _ => loadReg_ends .c .h s
  | .ldCL, s, _ => loadReg_ends .c .l s
  | .ldCAtHl, s, _ => loadFromHl_ends .c s
  | .ldCA, s, _ => loadReg_ends .c .a s
  | .ldDB, s, _ => loadReg_ends .d .b s
  | .ldDC, s, _ => loadReg_ends .d .c s
  | .ldDD, s, _ => loadReg_ends .d .d s
  | .ldDE, s, _ => loadReg_ends .d .e s
  | .ldDH, s, _ => loadReg_ends .d .h s
  | .ldDL, s, _ => loadReg_ends .d .l s
  | .ldDAtHl, s, _ => loadFromHl_ends .d s
  | .ldDA, s, _ => loadReg_ends .d .a s
  | .ldEB, s, _ => loadReg_ends .e .b s
  | .ldEC, s, _ => loadReg_ends .e .c s
  | .ldED, s, _ => loadReg_ends .e .d s
  | .ldEE, s, _ => loadReg_ends .e .e s
  | .ldEH, s, _ => loadReg_ends .e .h s
  | .ldEL, s, _ => loadReg_ends .e .l s
  | .ldEAtHl, s, _ => loadFromHl_ends .e s
  | .ldEA, s, _ => loadReg_ends .e .a s
  | .ldHB, s, _ => loadReg_ends .h .b s
  | .ldHC, s, _ => loadReg_ends .h .c s
  | .ldHD, s, _ => loadReg_ends .h .d s
  | .ldHE, s, _ => loadReg_ends .h .e s
  | .ldHH, s, _ => loadReg_ends .h .h s
  | .ldHL, s, _ => loadReg_ends .h .l s
  | .ldHAtHl, s, _ => loadFromHl_ends .h s
  | .ldHA, s, _ => loadReg_ends .h .a s
  | .ldLB, s, _ => loadReg_ends .l .b s
  | .ldLC, s, _ => loadReg_ends .l .c s
  | .ldLD, s, _ => loadReg_ends .l .d s
  | .ldLE, s, _ => loadReg_ends .l .e s
  | .ldLH, s, _ => loadReg_ends .l .h s
  | .ldLL, s, _ => loadReg_ends .l .l s
  | .ldLAtHl, s, _ => loadFromHl_ends .l s
  | .ldLA, s, _ => loadReg_ends .l .a s
  | .ldAtHlB, s, _ => storeToHl_ends .b s
  | .ldAtHlC, s, _ => storeToHl_ends .c s
  | .ldAtHlD, s, _ => storeToHl_ends .d s
  | .ldAtHlE, s, _ => storeToHl_ends .e s
  | .ldAtHlH, s, _ => storeToHl_ends .h s
  | .ldAtHlL, s, _ => storeToHl_ends .l s
  | .halt, _, h => Bool.noConfusion h
  | .ldAtHlA, s, _ => storeToHl_ends .a s
  | .ldAB, s, _ => loadReg_ends .a .b s
  | .ldAC, s, _ => loadReg_ends .a .c s
  | .ldAD, s, _ => loadReg_ends .a .d s
  | .ldAE, s, _ => loadReg_ends .a .e s
  | .ldAH, s, _ => loadReg_ends .a .h s
  | .ldAL, s, _ => loadReg_ends .a .l s
  | .ldAAtHl, s, _ => loadFromHl_ends .a s
  | .ldAA, s, _ => loadReg_ends .a .a s
  | .addAB, s, _ => aluReg_ends .add .b s
  | .addAC, s, _ => aluReg_ends .add .c s
  | .addAD, s, _ => aluReg_ends .add .d s
  | .addAE, s, _ => aluReg_ends .add .e s
  | .addAH, s, _ => aluReg_ends .add .h s
  | .addAL, s, _ => aluReg_ends .add .l s
  | .addAAtHl, s, _ => aluMem_ends .add s
  | .addAA, s, _ => aluReg_ends .add .a s
  | .adcAB, s, _ => aluReg_ends .adc .b s
  | .adcAC, s, _ => aluReg_ends .adc .c s
  | .adcAD, s, _ => aluReg_ends .adc .d s
  | .adcAE, s, _ => aluReg_ends .adc .e s
  | .adcAH, s, _ => aluReg_ends .adc .h s
  | .adcAL, s, _ => aluReg_ends .adc .l s
  | .adcAAtHl, s, _ => aluMem_ends .adc s
  | .adcAA, s, _ => aluReg_ends .adc .a s
  | .subB, s, _ => aluReg_ends .sub .b s
  | .subC, s, _ => aluReg_ends .sub .c s
  | .subD, s, _ => aluReg_ends .sub .d s
  | .subE, s, _ => aluReg_ends .sub .e s
  | .subH, s, _ => aluReg_ends .sub .h s
  | .subL, s, _ => aluReg_ends .sub .l s
  | .subAtHl, s, _ => aluMem_ends .sub s
  | .subA, s, _ => aluReg_ends .sub .a s
  | .sbcAB, s, _ => aluReg_ends .sbc .b s
  | .sbcAC, s, _ => aluReg_ends .sbc .c s
  | .sbcAD, s, _ => aluReg_ends .sbc .d s
  | .sbcAE, s, _ => aluReg_ends .sbc .e s
  | .sbcAH, s, _ => aluReg_ends .sbc .h s
  | .sbcAL, s, _ => aluReg_ends .sbc .l s
  | .sbcAAtHl, s, _ => aluMem_ends .sbc s
  | .sbcAA, s, _ => aluReg_ends .sbc .a s
  | .andB, s, _ => aluReg_ends .and .b s
  | .andC, s, _ => aluReg_ends .and .c s
  | .andD, s, _ => aluReg_ends .and .d s
  | .andE, s, _ => aluReg_ends .and .e s
  | .andH, s, _ => aluReg_ends .and .h s
  | .andL, s, _ => aluReg_ends .and .l s
  | .andAtHl, s, _ => aluMem_ends .and s
  | .andA, s, _ => aluReg_ends .and .a s
  | .xorB, s, _ => aluReg_ends .xor .b s
  | .xorC, s, _ => aluReg_ends .xor .c s
  | .xorD, s, _ => aluReg_ends .xor .d s
  | .xorE, s, _ => aluReg_ends .xor .e s
  | .xorH, s, _ => aluReg_ends .xor .h s
  | .xorL, s, _ => aluReg_ends .xor .l s
  | .xorAtHl, s, _ => aluMem_ends .xor s
  | .xorA, s, _ => aluReg_ends .xor .a s
  | .orB, s, _ => aluReg_ends .or .b s
  | .orC, s, _ => aluReg_ends .or .c s
  | .orD, s, _ => aluReg_ends .or .d s
  | .orE, s, _ => aluReg_ends .or .e s
  | .orH, s, _ => aluReg_ends .or .h s
  | .orL, s, _ => aluReg_ends .or .l s
  | .orAtHl, s, _ => aluMem_ends .or s
  | .orA, s, _ => aluReg_ends .or .a s
  | .cpB, s, _ => aluReg_ends .cp .b s
  | .cpC, s, _ => aluReg_ends .cp .c s
  | .cpD, s, _ => aluReg_ends .cp .d s
  | .cpE, s, _ => aluReg_ends .cp .e s
  | .cpH, s, _ => aluReg_ends .cp .h s
  | .cpL, s, _ => aluReg_ends .cp .l s
  | .cpAtHl, s, _ => aluMem_ends .cp s
  | .cpA, s, _ => aluReg_ends .cp .a s
  | .retNz, s, _ => returnIf_ends .nz s
  | .popBc, s, _ => pop_ends .bc s
  | .jpNzA16 nn, s, _ => jumpIf_ends .nz nn s
  | .jpA16 nn, s, _ => jump_ends nn s
  | .callNzA16 nn, s, _ => callIf_ends .nz nn s
  | .pushBc, s, _ => push_ends .bc s
  | .addAD8 n, s, _ => aluImm_ends .add n s
  | .rst00, s, _ => restart_ends 0x0000 s
  | .retZ, s, _ => returnIf_ends .z s
  | .ret, s, _ => returnTop_ends s
  | .jpZA16 nn, s, _ => jumpIf_ends .z nn s
  | .prefixCb op2, s, _ => execPrefixCb_ends op2 s
  | .callZA16 nn, s, _ => callIf_ends .z nn s
  | .callA16 nn, s, _ => call_ends nn s
  | .adcAD8 n, s, _ => aluImm_ends .adc n s
  | .rst08, s, _ => restart_ends 0x0008 s
  | .retNc, s, _ => returnIf_ends .nc s
  | .popDe, s, _ => pop_ends .de s
  | .jpNcA16 nn, s, _ => jumpIf_ends .nc nn s
  | .callNcA16 nn, s, _ => callIf_ends .nc nn s
  | .pushDe, s, _ => push_ends .de s
  | .subD8 n, s, _ => aluImm_ends .sub n s
  | .rst10, s, _ => restart_ends 0x0010 s
  | .retC, s, _ => returnIf_ends .c s
  | .reti, _, h => Bool.noConfusion h
  | .jpCA16 nn, s, _ => jumpIf_ends .c nn s
  | .callCA16 nn, s, _ => callIf_ends .c nn s
  | .sbcAD8 n, s, _ => aluImm_ends .sbc n s
  | .rst18, s, _ => restart_ends 0x0018 s
  | .ldhAtA8A n, s, _ => storeA_ends 3 (highPage n) s (by decide) (by decide) (by decide)
  | .popHl, s, _ => pop_ends .hl s
  | .ldAtCA, s, _ => storeA_ends 2 (highPage s.regs.c) s (by decide) (by decide) (by decide)
  | .pushHl, s, _ => push_ends .hl s
  | .andD8 n, s, _ => aluImm_ends .and n s
  | .rst20, s, _ => restart_ends 0x0020 s
  | .addSpE8 e, s, _ => addToSp_ends e s
  | .jpHl, s, _ => jumpHl_ends s
  | .ldAtA16A nn, s, _ => storeA_ends 4 nn s (by decide) (by decide) (by decide)
  | .xorD8 n, s, _ => aluImm_ends .xor n s
  | .rst28, s, _ => restart_ends 0x0028 s
  | .ldhAAtA8 n, s, _ => loadA_ends 3 (highPage n) s (by decide) (by decide) (by decide)
  | .popAf, s, _ => pop_ends .af s
  | .ldAAtC, s, _ => loadA_ends 2 (highPage s.regs.c) s (by decide) (by decide) (by decide)
  | .di, _, h => Bool.noConfusion h
  | .pushAf, s, _ => push_ends .af s
  | .orD8 n, s, _ => aluImm_ends .or n s
  | .rst30, s, _ => restart_ends 0x0030 s
  | .ldHlSpE8 e, s, _ => loadHlSpOffset_ends e s
  | .ldSpHl, s, _ => loadSpHl_ends s
  | .ldAAtA16 nn, s, _ => loadA_ends 4 nn s (by decide) (by decide) (by decide)
  | .ei, _, h => Bool.noConfusion h
  | .cpD8 n, s, _ => aluImm_ends .cp n s
  | .rst38, s, _ => restart_ends 0x0038 s
  | .rlcB, s, _ => rotateReg_ends .rlc .b s
  | .rlcC, s, _ => rotateReg_ends .rlc .c s
  | .rlcD, s, _ => rotateReg_ends .rlc .d s
  | .rlcE, s, _ => rotateReg_ends .rlc .e s
  | .rlcH, s, _ => rotateReg_ends .rlc .h s
  | .rlcL, s, _ => rotateReg_ends .rlc .l s
  | .rlcAtHl, s, _ => rotateMem_ends .rlc s
  | .rlcA, s, _ => rotateReg_ends .rlc .a s
  | .rrcB, s, _ => rotateReg_ends .rrc .b s
  | .rrcC, s, _ => rotateReg_ends .rrc .c s
  | .rrcD, s, _ => rotateReg_ends .rrc .d s
  | .rrcE, s, _ => rotateReg_ends .rrc .e s
  | .rrcH, s, _ => rotateReg_ends .rrc .h s
  | .rrcL, s, _ => rotateReg_ends .rrc .l s
  | .rrcAtHl, s, _ => rotateMem_ends .rrc s
  | .rrcA, s, _ => rotateReg_ends .rrc .a s
  | .rlB, s, _ => rotateReg_ends .rl .b s
  | .rlC, s, _ => rotateReg_ends .rl .c s
  | .rlD, s, _ => rotateReg_ends .rl .d s
  | .rlE, s, _ => rotateReg_ends .rl .e s
  | .rlH, s, _ => rotateReg_ends .rl .h s
  | .rlL, s, _ => rotateReg_ends .rl .l s
  | .rlAtHl, s, _ => rotateMem_ends .rl s
  | .rlA, s, _ => rotateReg_ends .rl .a s
  | .rrB, s, _ => rotateReg_ends .rr .b s
  | .rrC, s, _ => rotateReg_ends .rr .c s
  | .rrD, s, _ => rotateReg_ends .rr .d s
  | .rrE, s, _ => rotateReg_ends .rr .e s
  | .rrH, s, _ => rotateReg_ends .rr .h s
  | .rrL, s, _ => rotateReg_ends .rr .l s
  | .rrAtHl, s, _ => rotateMem_ends .rr s
  | .rrA, s, _ => rotateReg_ends .rr .a s
  | .slaB, s, _ => rotateReg_ends .sla .b s
  | .slaC, s, _ => rotateReg_ends .sla .c s
  | .slaD, s, _ => rotateReg_ends .sla .d s
  | .slaE, s, _ => rotateReg_ends .sla .e s
  | .slaH, s, _ => rotateReg_ends .sla .h s
  | .slaL, s, _ => rotateReg_ends .sla .l s
  | .slaAtHl, s, _ => rotateMem_ends .sla s
  | .slaA, s, _ => rotateReg_ends .sla .a s
  | .sraB, s, _ => rotateReg_ends .sra .b s
  | .sraC, s, _ => rotateReg_ends .sra .c s
  | .sraD, s, _ => rotateReg_ends .sra .d s
  | .sraE, s, _ => rotateReg_ends .sra .e s
  | .sraH, s, _ => rotateReg_ends .sra .h s
  | .sraL, s, _ => rotateReg_ends .sra .l s
  | .sraAtHl, s, _ => rotateMem_ends .sra s
  | .sraA, s, _ => rotateReg_ends .sra .a s
  | .swapB, s, _ => rotateReg_ends .swap .b s
  | .swapC, s, _ => rotateReg_ends .swap .c s
  | .swapD, s, _ => rotateReg_ends .swap .d s
  | .swapE, s, _ => rotateReg_ends .swap .e s
  | .swapH, s, _ => rotateReg_ends .swap .h s
  | .swapL, s, _ => rotateReg_ends .swap .l s
  | .swapAtHl, s, _ => rotateMem_ends .swap s
  | .swapA, s, _ => rotateReg_ends .swap .a s
  | .srlB, s, _ => rotateReg_ends .srl .b s
  | .srlC, s, _ => rotateReg_ends .srl .c s
  | .srlD, s, _ => rotateReg_ends .srl .d s
  | .srlE, s, _ => rotateReg_ends .srl .e s
  | .srlH, s, _ => rotateReg_ends .srl .h s
  | .srlL, s, _ => rotateReg_ends .srl .l s
  | .srlAtHl, s, _ => rotateMem_ends .srl s
  | .srlA, s, _ => rotateReg_ends .srl .a s
  | .bit0B, s, _ => testBitReg_ends 0 .b s
  | .bit0C, s, _ => testBitReg_ends 0 .c s
  | .bit0D, s, _ => testBitReg_ends 0 .d s
  | .bit0E, s, _ => testBitReg_ends 0 .e s
  | .bit0H, s, _ => testBitReg_ends 0 .h s
  | .bit0L, s, _ => testBitReg_ends 0 .l s
  | .bit0AtHl, s, _ => testBitMem_ends 0 s
  | .bit0A, s, _ => testBitReg_ends 0 .a s
  | .bit1B, s, _ => testBitReg_ends 1 .b s
  | .bit1C, s, _ => testBitReg_ends 1 .c s
  | .bit1D, s, _ => testBitReg_ends 1 .d s
  | .bit1E, s, _ => testBitReg_ends 1 .e s
  | .bit1H, s, _ => testBitReg_ends 1 .h s
  | .bit1L, s, _ => testBitReg_ends 1 .l s
  | .bit1AtHl, s, _ => testBitMem_ends 1 s
  | .bit1A, s, _ => testBitReg_ends 1 .a s
  | .bit2B, s, _ => testBitReg_ends 2 .b s
  | .bit2C, s, _ => testBitReg_ends 2 .c s
  | .bit2D, s, _ => testBitReg_ends 2 .d s
  | .bit2E, s, _ => testBitReg_ends 2 .e s
  | .bit2H, s, _ => testBitReg_ends 2 .h s
  | .bit2L, s, _ => testBitReg_ends 2 .l s
  | .bit2AtHl, s, _ => testBitMem_ends 2 s
  | .bit2A, s, _ => testBitReg_ends 2 .a s
  | .bit3B, s, _ => testBitReg_ends 3 .b s
  | .bit3C, s, _ => testBitReg_ends 3 .c s
  | .bit3D, s, _ => testBitReg_ends 3 .d s
  | .bit3E, s, _ => testBitReg_ends 3 .e s
  | .bit3H, s, _ => testBitReg_ends 3 .h s
  | .bit3L, s, _ => testBitReg_ends 3 .l s
  | .bit3AtHl, s, _ => testBitMem_ends 3 s
  | .bit3A, s, _ => testBitReg_ends 3 .a s
  | .bit4B, s, _ => testBitReg_ends 4 .b s
  | .bit4C, s, _ => testBitReg_ends 4 .c s
  | .bit4D, s, _ => testBitReg_ends 4 .d s
  | .bit4E, s, _ => testBitReg_ends 4 .e s
  | .bit4H, s, _ => testBitReg_ends 4 .h s
  | .bit4L, s, _ => testBitReg_ends 4 .l s
  | .bit4AtHl, s, _ => testBitMem_ends 4 s
  | .bit4A, s, _ => testBitReg_ends 4 .a s
  | .bit5B, s, _ => testBitReg_ends 5 .b s
  | .bit5C, s, _ => testBitReg_ends 5 .c s
  | .bit5D, s, _ => testBitReg_ends 5 .d s
  | .bit5E, s, _ => testBitReg_ends 5 .e s
  | .bit5H, s, _ => testBitReg_ends 5 .h s
  | .bit5L, s, _ => testBitReg_ends 5 .l s
  | .bit5AtHl, s, _ => testBitMem_ends 5 s
  | .bit5A, s, _ => testBitReg_ends 5 .a s
  | .bit6B, s, _ => testBitReg_ends 6 .b s
  | .bit6C, s, _ => testBitReg_ends 6 .c s
  | .bit6D, s, _ => testBitReg_ends 6 .d s
  | .bit6E, s, _ => testBitReg_ends 6 .e s
  | .bit6H, s, _ => testBitReg_ends 6 .h s
  | .bit6L, s, _ => testBitReg_ends 6 .l s
  | .bit6AtHl, s, _ => testBitMem_ends 6 s
  | .bit6A, s, _ => testBitReg_ends 6 .a s
  | .bit7B, s, _ => testBitReg_ends 7 .b s
  | .bit7C, s, _ => testBitReg_ends 7 .c s
  | .bit7D, s, _ => testBitReg_ends 7 .d s
  | .bit7E, s, _ => testBitReg_ends 7 .e s
  | .bit7H, s, _ => testBitReg_ends 7 .h s
  | .bit7L, s, _ => testBitReg_ends 7 .l s
  | .bit7AtHl, s, _ => testBitMem_ends 7 s
  | .bit7A, s, _ => testBitReg_ends 7 .a s
  | .res0B, s, _ => resetBitReg_ends 0 .b s
  | .res0C, s, _ => resetBitReg_ends 0 .c s
  | .res0D, s, _ => resetBitReg_ends 0 .d s
  | .res0E, s, _ => resetBitReg_ends 0 .e s
  | .res0H, s, _ => resetBitReg_ends 0 .h s
  | .res0L, s, _ => resetBitReg_ends 0 .l s
  | .res0AtHl, s, _ => resetBitMem_ends 0 s
  | .res0A, s, _ => resetBitReg_ends 0 .a s
  | .res1B, s, _ => resetBitReg_ends 1 .b s
  | .res1C, s, _ => resetBitReg_ends 1 .c s
  | .res1D, s, _ => resetBitReg_ends 1 .d s
  | .res1E, s, _ => resetBitReg_ends 1 .e s
  | .res1H, s, _ => resetBitReg_ends 1 .h s
  | .res1L, s, _ => resetBitReg_ends 1 .l s
  | .res1AtHl, s, _ => resetBitMem_ends 1 s
  | .res1A, s, _ => resetBitReg_ends 1 .a s
  | .res2B, s, _ => resetBitReg_ends 2 .b s
  | .res2C, s, _ => resetBitReg_ends 2 .c s
  | .res2D, s, _ => resetBitReg_ends 2 .d s
  | .res2E, s, _ => resetBitReg_ends 2 .e s
  | .res2H, s, _ => resetBitReg_ends 2 .h s
  | .res2L, s, _ => resetBitReg_ends 2 .l s
  | .res2AtHl, s, _ => resetBitMem_ends 2 s
  | .res2A, s, _ => resetBitReg_ends 2 .a s
  | .res3B, s, _ => resetBitReg_ends 3 .b s
  | .res3C, s, _ => resetBitReg_ends 3 .c s
  | .res3D, s, _ => resetBitReg_ends 3 .d s
  | .res3E, s, _ => resetBitReg_ends 3 .e s
  | .res3H, s, _ => resetBitReg_ends 3 .h s
  | .res3L, s, _ => resetBitReg_ends 3 .l s
  | .res3AtHl, s, _ => resetBitMem_ends 3 s
  | .res3A, s, _ => resetBitReg_ends 3 .a s
  | .res4B, s, _ => resetBitReg_ends 4 .b s
  | .res4C, s, _ => resetBitReg_ends 4 .c s
  | .res4D, s, _ => resetBitReg_ends 4 .d s
  | .res4E, s, _ => resetBitReg_ends 4 .e s
  | .res4H, s, _ => resetBitReg_ends 4 .h s
  | .res4L, s, _ => resetBitReg_ends 4 .l s
  | .res4AtHl, s, _ => resetBitMem_ends 4 s
  | .res4A, s, _ => resetBitReg_ends 4 .a s
  | .res5B, s, _ => resetBitReg_ends 5 .b s
  | .res5C, s, _ => resetBitReg_ends 5 .c s
  | .res5D, s, _ => resetBitReg_ends 5 .d s
  | .res5E, s, _ => resetBitReg_ends 5 .e s
  | .res5H, s, _ => resetBitReg_ends 5 .h s
  | .res5L, s, _ => resetBitReg_ends 5 .l s
  | .res5AtHl, s, _ => resetBitMem_ends 5 s
  | .res5A, s, _ => resetBitReg_ends 5 .a s
  | .res6B, s, _ => resetBitReg_ends 6 .b s
  | .res6C, s, _ => resetBitReg_ends 6 .c s
  | .res6D, s, _ => resetBitReg_ends 6 .d s
  | .res6E, s, _ => resetBitReg_ends 6 .e s
  | .res6H, s, _ => resetBitReg_ends 6 .h s
  | .res6L, s, _ => resetBitReg_ends 6 .l s
  | .res6AtHl, s, _ => resetBitMem_ends 6 s
  | .res6A, s, _ => resetBitReg_ends 6 .a s
  | .res7B, s, _ => resetBitReg_ends 7 .b s
  | .res7C, s, _ => resetBitReg_ends 7 .c s
  | .res7D, s, _ => resetBitReg_ends 7 .d s
  | .res7E, s, _ => resetBitReg_ends 7 .e s
  | .res7H, s, _ => resetBitReg_ends 7 .h s
  | .res7L, s, _ => resetBitReg_ends 7 .l s
  | .res7AtHl, s, _ => resetBitMem_ends 7 s
  | .res7A, s, _ => resetBitReg_ends 7 .a s
  | .set0B, s, _ => raiseBitReg_ends 0 .b s
  | .set0C, s, _ => raiseBitReg_ends 0 .c s
  | .set0D, s, _ => raiseBitReg_ends 0 .d s
  | .set0E, s, _ => raiseBitReg_ends 0 .e s
  | .set0H, s, _ => raiseBitReg_ends 0 .h s
  | .set0L, s, _ => raiseBitReg_ends 0 .l s
  | .set0AtHl, s, _ => raiseBitMem_ends 0 s
  | .set0A, s, _ => raiseBitReg_ends 0 .a s
  | .set1B, s, _ => raiseBitReg_ends 1 .b s
  | .set1C, s, _ => raiseBitReg_ends 1 .c s
  | .set1D, s, _ => raiseBitReg_ends 1 .d s
  | .set1E, s, _ => raiseBitReg_ends 1 .e s
  | .set1H, s, _ => raiseBitReg_ends 1 .h s
  | .set1L, s, _ => raiseBitReg_ends 1 .l s
  | .set1AtHl, s, _ => raiseBitMem_ends 1 s
  | .set1A, s, _ => raiseBitReg_ends 1 .a s
  | .set2B, s, _ => raiseBitReg_ends 2 .b s
  | .set2C, s, _ => raiseBitReg_ends 2 .c s
  | .set2D, s, _ => raiseBitReg_ends 2 .d s
  | .set2E, s, _ => raiseBitReg_ends 2 .e s
  | .set2H, s, _ => raiseBitReg_ends 2 .h s
  | .set2L, s, _ => raiseBitReg_ends 2 .l s
  | .set2AtHl, s, _ => raiseBitMem_ends 2 s
  | .set2A, s, _ => raiseBitReg_ends 2 .a s
  | .set3B, s, _ => raiseBitReg_ends 3 .b s
  | .set3C, s, _ => raiseBitReg_ends 3 .c s
  | .set3D, s, _ => raiseBitReg_ends 3 .d s
  | .set3E, s, _ => raiseBitReg_ends 3 .e s
  | .set3H, s, _ => raiseBitReg_ends 3 .h s
  | .set3L, s, _ => raiseBitReg_ends 3 .l s
  | .set3AtHl, s, _ => raiseBitMem_ends 3 s
  | .set3A, s, _ => raiseBitReg_ends 3 .a s
  | .set4B, s, _ => raiseBitReg_ends 4 .b s
  | .set4C, s, _ => raiseBitReg_ends 4 .c s
  | .set4D, s, _ => raiseBitReg_ends 4 .d s
  | .set4E, s, _ => raiseBitReg_ends 4 .e s
  | .set4H, s, _ => raiseBitReg_ends 4 .h s
  | .set4L, s, _ => raiseBitReg_ends 4 .l s
  | .set4AtHl, s, _ => raiseBitMem_ends 4 s
  | .set4A, s, _ => raiseBitReg_ends 4 .a s
  | .set5B, s, _ => raiseBitReg_ends 5 .b s
  | .set5C, s, _ => raiseBitReg_ends 5 .c s
  | .set5D, s, _ => raiseBitReg_ends 5 .d s
  | .set5E, s, _ => raiseBitReg_ends 5 .e s
  | .set5H, s, _ => raiseBitReg_ends 5 .h s
  | .set5L, s, _ => raiseBitReg_ends 5 .l s
  | .set5AtHl, s, _ => raiseBitMem_ends 5 s
  | .set5A, s, _ => raiseBitReg_ends 5 .a s
  | .set6B, s, _ => raiseBitReg_ends 6 .b s
  | .set6C, s, _ => raiseBitReg_ends 6 .c s
  | .set6D, s, _ => raiseBitReg_ends 6 .d s
  | .set6E, s, _ => raiseBitReg_ends 6 .e s
  | .set6H, s, _ => raiseBitReg_ends 6 .h s
  | .set6L, s, _ => raiseBitReg_ends 6 .l s
  | .set6AtHl, s, _ => raiseBitMem_ends 6 s
  | .set6A, s, _ => raiseBitReg_ends 6 .a s
  | .set7B, s, _ => raiseBitReg_ends 7 .b s
  | .set7C, s, _ => raiseBitReg_ends 7 .c s
  | .set7D, s, _ => raiseBitReg_ends 7 .d s
  | .set7E, s, _ => raiseBitReg_ends 7 .e s
  | .set7H, s, _ => raiseBitReg_ends 7 .h s
  | .set7L, s, _ => raiseBitReg_ends 7 .l s
  | .set7AtHl, s, _ => raiseBitMem_ends 7 s
  | .set7A, s, _ => raiseBitReg_ends 7 .a s
  | .illegalD3, _, h => Bool.noConfusion h
  | .illegalDB, _, h => Bool.noConfusion h
  | .illegalDD, _, h => Bool.noConfusion h
  | .illegalE3, _, h => Bool.noConfusion h
  | .illegalE4, _, h => Bool.noConfusion h
  | .illegalEB, _, h => Bool.noConfusion h
  | .illegalEC, _, h => Bool.noConfusion h
  | .illegalED, _, h => Bool.noConfusion h
  | .illegalF4, _, h => Bool.noConfusion h
  | .illegalFC, _, h => Bool.noConfusion h
  | .illegalFD, _, h => Bool.noConfusion h

end Sys2Proof.Machine
end

