-- ==== Sys2Proof/Laws/HostCalls.lean ====
section
/-! SUPPORT. The saved-state calls: what is saved loads back, and a refusal changes nothing. -/

namespace Sys2Proof.Machine

/-- R532: `loadState(saveState())` is a no-op. -/
theorem loadState_saveState {s : State} (h : s.cart ≠ none) : s.loadState s.saveState = (.none, s) := by
  simp [State.loadState, State.saveState, sameCartridge, Option.isSome_iff_ne_none.mpr h]

/-- R431: a `loadState` that is refused changes nothing. -/
theorem loadState_refused {s : State} {saved : SavedState} (h : (s.loadState saved).1 ≠ .none) :
    s.loadState saved = (.stateIncompatible, s) := by
  unfold State.loadState at h ⊢
  split <;> simp_all

/-- R431, R532: another format version is refused. -/
theorem loadState_version {s : State} {saved : SavedState} (h : saved.version ≠ Config.stateVersion) :
    s.loadState saved = (.stateIncompatible, s) := by
  simp [State.loadState, h]

/-- `loadState` never changes the parameters of R10. -/
@[simp] theorem loadState_config (s : State) (saved : SavedState) : (s.loadState saved).2.config = s.config := by
  unfold State.loadState
  split <;> rfl

end Sys2Proof.Machine
end

