-- ==== Sys2Proof/Tests/Slice0.lean ====
section
/-! SUPPORT. Tests: ill-formed terms refused, every row of the two opcode maps decoded, the spec's vectors, and a witness
for the hypotheses of every statement. Every expected value is from spec/30_encoding.md (R165, R166) or
spec/95_test_vectors.md (the E, V, B, M, T, S, J and A numbers), unless the test says otherwise. -/

namespace Sys2Proof.Tests

open Sys2Proof.Machine

/-! ### Well-formedness -/

/-- R349, D47: the prefix row alone is no instruction. -/
theorem test_prefix_alone_is_ill_formed : ¬ WellFormed (.prefixCb 0x00) := by decide

theorem test_bytes_that_end_early : decode [] = .error .noBytes ∧ decode [0xCB] = .error (.truncated 2 1) ∧
    decode [0xCD, 0x34] = .error (.truncated 3 2) := by decide

/-! ### Decoding: the maps of R165 and R166, row by row -/

/-- The instruction and how many bytes it takes, from the bytes `op 34 12`. -/
def decodesTo (op : Byte) (i : Instr) (len : Nat) : Bool :=
  match decode [op, 0x34, 0x12] with
  | .ok (j, rest) => j = i && rest.length + len = 3 && encode i = [op, 0x34, 0x12].take len
  | .error _ => false

/-- The instruction of the two bytes `CB op`. -/
def decodesCb (op : Byte) (i : Instr) : Bool :=
  match decode [0xCB, op] with
  | .ok (j, rest) => j = i && rest = [] && encode i = [0xCB, op]
  | .error _ => false

/-- The cycles an instruction counts with all flags clear, and with all set (`taken/not taken` in R165). -/
def costs (i : Instr) (clear set : Nat) : Bool :=
  let cost (f : Byte) : Nat :=
    match exec i (State.reset.setFlags (Flags.ofByte f)) with
    | .next t => t.cpu.cycles
    | .fault _ => 0
    | .refused _ => 0
  cost 0x00 = clear && cost 0xF0 = set

theorem test_primary_map_row_0 : (decodesTo 0x00 .nop 1 && costs .nop 4 4 &&
    decodesTo 0x01 (.ldBcD16 0x1234) 3 && costs (.ldBcD16 0x1234) 12 12 &&
    decodesTo 0x02 .ldAtBcA 1 && costs .ldAtBcA 8 8 &&
    decodesTo 0x03 .incBc 1 && costs .incBc 8 8 &&
    decodesTo 0x04 .incB 1 && costs .incB 4 4 &&
    decodesTo 0x05 .decB 1 && costs .decB 4 4 &&
    decodesTo 0x06 (.ldBD8 0x34) 2 && costs (.ldBD8 0x34) 8 8 &&
    decodesTo 0x07 .rlca 1 && costs .rlca 4 4 &&
    decodesTo 0x08 (.ldAtA16Sp 0x1234) 3 && costs (.ldAtA16Sp 0x1234) 20 20 &&
    decodesTo 0x09 .addHlBc 1 && costs .addHlBc 8 8 &&
    decodesTo 0x0A .ldAAtBc 1 && costs .ldAAtBc 8 8 &&
    decodesTo 0x0B .decBc 1 && costs .decBc 8 8 &&
    decodesTo 0x0C .incC 1 && costs .incC 4 4 &&
    decodesTo 0x0D .decC 1 && costs .decC 4 4 &&
    decodesTo 0x0E (.ldCD8 0x34) 2 && costs (.ldCD8 0x34) 8 8 &&
    decodesTo 0x0F .rrca 1 && costs .rrca 4 4) = true := by
  decide

theorem test_primary_map_row_1 : (decodesTo 0x10 (.stop 0x34) 2 && costs (.stop 0x34) 4 4 &&
    decodesTo 0x11 (.ldDeD16 0x1234) 3 && costs (.ldDeD16 0x1234) 12 12 &&
    decodesTo 0x12 .ldAtDeA 1 && costs .ldAtDeA 8 8 &&
    decodesTo 0x13 .incDe 1 && costs .incDe 8 8 &&
    decodesTo 0x14 .incD 1 && costs .incD 4 4 &&
    decodesTo 0x15 .decD 1 && costs .decD 4 4 &&
    decodesTo 0x16 (.ldDD8 0x34) 2 && costs (.ldDD8 0x34) 8 8 &&
    decodesTo 0x17 .rla 1 && costs .rla 4 4 &&
    decodesTo 0x18 (.jrE8 0x34) 2 && costs (.jrE8 0x34) 12 12 &&
    decodesTo 0x19 .addHlDe 1 && costs .addHlDe 8 8 &&
    decodesTo 0x1A .ldAAtDe 1 && costs .ldAAtDe 8 8 &&
    decodesTo 0x1B .decDe 1 && costs .decDe 8 8 &&
    decodesTo 0x1C .incE 1 && costs .incE 4 4 &&
    decodesTo 0x1D .decE 1 && costs .decE 4 4 &&
    decodesTo 0x1E (.ldED8 0x34) 2 && costs (.ldED8 0x34) 8 8 &&
    decodesTo 0x1F .rra 1 && costs .rra 4 4) = true := by
  decide

theorem test_primary_map_row_2 : (decodesTo 0x20 (.jrNzE8 0x34) 2 && costs (.jrNzE8 0x34) 12 8 &&
    decodesTo 0x21 (.ldHlD16 0x1234) 3 && costs (.ldHlD16 0x1234) 12 12 &&
    decodesTo 0x22 .ldAtHlIncA 1 && costs .ldAtHlIncA 8 8 &&
    decodesTo 0x23 .incHl 1 && costs .incHl 8 8 &&
    decodesTo 0x24 .incH 1 && costs .incH 4 4 &&
    decodesTo 0x25 .decH 1 && costs .decH 4 4 &&
    decodesTo 0x26 (.ldHD8 0x34) 2 && costs (.ldHD8 0x34) 8 8 &&
    decodesTo 0x27 .daa 1 && costs .daa 4 4 &&
    decodesTo 0x28 (.jrZE8 0x34) 2 && costs (.jrZE8 0x34) 8 12 &&
    decodesTo 0x29 .addHlHl 1 && costs .addHlHl 8 8 &&
    decodesTo 0x2A .ldAAtHlInc 1 && costs .ldAAtHlInc 8 8 &&
    decodesTo 0x2B .decHl 1 && costs .decHl 8 8 &&
    decodesTo 0x2C .incL 1 && costs .incL 4 4 &&
    decodesTo 0x2D .decL 1 && costs .decL 4 4 &&
    decodesTo 0x2E (.ldLD8 0x34) 2 && costs (.ldLD8 0x34) 8 8 &&
    decodesTo 0x2F .cpl 1 && costs .cpl 4 4) = true := by
  decide

theorem test_primary_map_row_3 : (decodesTo 0x30 (.jrNcE8 0x34) 2 && costs (.jrNcE8 0x34) 12 8 &&
    decodesTo 0x31 (.ldSpD16 0x1234) 3 && costs (.ldSpD16 0x1234) 12 12 &&
    decodesTo 0x32 .ldAtHlDecA 1 && costs .ldAtHlDecA 8 8 &&
    decodesTo 0x33 .incSp 1 && costs .incSp 8 8 &&
    decodesTo 0x34 .incAtHl 1 && costs .incAtHl 12 12 &&
    decodesTo 0x35 .decAtHl 1 && costs .decAtHl 12 12 &&
    decodesTo 0x36 (.ldAtHlD8 0x34) 2 && costs (.ldAtHlD8 0x34) 12 12 &&
    decodesTo 0x37 .scf 1 && costs .scf 4 4 &&
    decodesTo 0x38 (.jrCE8 0x34) 2 && costs (.jrCE8 0x34) 8 12 &&
    decodesTo 0x39 .addHlSp 1 && costs .addHlSp 8 8 &&
    decodesTo 0x3A .ldAAtHlDec 1 && costs .ldAAtHlDec 8 8 &&
    decodesTo 0x3B .decSp 1 && costs .decSp 8 8 &&
    decodesTo 0x3C .incA 1 && costs .incA 4 4 &&
    decodesTo 0x3D .decA 1 && costs .decA 4 4 &&
    decodesTo 0x3E (.ldAD8 0x34) 2 && costs (.ldAD8 0x34) 8 8 &&
    decodesTo 0x3F .ccf 1 && costs .ccf 4 4) = true := by
  decide

theorem test_primary_map_row_4 : (decodesTo 0x40 .ldBB 1 && costs .ldBB 4 4 &&
    decodesTo 0x41 .ldBC 1 && costs .ldBC 4 4 &&
    decodesTo 0x42 .ldBD 1 && costs .ldBD 4 4 &&
    decodesTo 0x43 .ldBE 1 && costs .ldBE 4 4 &&
    decodesTo 0x44 .ldBH 1 && costs .ldBH 4 4 &&
    decodesTo 0x45 .ldBL 1 && costs .ldBL 4 4 &&
    decodesTo 0x46 .ldBAtHl 1 && costs .ldBAtHl 8 8 &&
    decodesTo 0x47 .ldBA 1 && costs .ldBA 4 4 &&
    decodesTo 0x48 .ldCB 1 && costs .ldCB 4 4 &&
    decodesTo 0x49 .ldCC 1 && costs .ldCC 4 4 &&
    decodesTo 0x4A .ldCD 1 && costs .ldCD 4 4 &&
    decodesTo 0x4B .ldCE 1 && costs .ldCE 4 4 &&
    decodesTo 0x4C .ldCH 1 && costs .ldCH 4 4 &&
    decodesTo 0x4D .ldCL 1 && costs .ldCL 4 4 &&
    decodesTo 0x4E .ldCAtHl 1 && costs .ldCAtHl 8 8 &&
    decodesTo 0x4F .ldCA 1 && costs .ldCA 4 4) = true := by
  decide

theorem test_primary_map_row_5 : (decodesTo 0x50 .ldDB 1 && costs .ldDB 4 4 &&
    decodesTo 0x51 .ldDC 1 && costs .ldDC 4 4 &&
    decodesTo 0x52 .ldDD 1 && costs .ldDD 4 4 &&
    decodesTo 0x53 .ldDE 1 && costs .ldDE 4 4 &&
    decodesTo 0x54 .ldDH 1 && costs .ldDH 4 4 &&
    decodesTo 0x55 .ldDL 1 && costs .ldDL 4 4 &&
    decodesTo 0x56 .ldDAtHl 1 && costs .ldDAtHl 8 8 &&
    decodesTo 0x57 .ldDA 1 && costs .ldDA 4 4 &&
    decodesTo 0x58 .ldEB 1 && costs .ldEB 4 4 &&
    decodesTo 0x59 .ldEC 1 && costs .ldEC 4 4 &&
    decodesTo 0x5A .ldED 1 && costs .ldED 4 4 &&
    decodesTo 0x5B .ldEE 1 && costs .ldEE 4 4 &&
    decodesTo 0x5C .ldEH 1 && costs .ldEH 4 4 &&
    decodesTo 0x5D .ldEL 1 && costs .ldEL 4 4 &&
    decodesTo 0x5E .ldEAtHl 1 && costs .ldEAtHl 8 8 &&
    decodesTo 0x5F .ldEA 1 && costs .ldEA 4 4) = true := by
  decide

theorem test_primary_map_row_6 : (decodesTo 0x60 .ldHB 1 && costs .ldHB 4 4 &&
    decodesTo 0x61 .ldHC 1 && costs .ldHC 4 4 &&
    decodesTo 0x62 .ldHD 1 && costs .ldHD 4 4 &&
    decodesTo 0x63 .ldHE 1 && costs .ldHE 4 4 &&
    decodesTo 0x64 .ldHH 1 && costs .ldHH 4 4 &&
    decodesTo 0x65 .ldHL 1 && costs .ldHL 4 4 &&
    decodesTo 0x66 .ldHAtHl 1 && costs .ldHAtHl 8 8 &&
    decodesTo 0x67 .ldHA 1 && costs .ldHA 4 4 &&
    decodesTo 0x68 .ldLB 1 && costs .ldLB 4 4 &&
    decodesTo 0x69 .ldLC 1 && costs .ldLC 4 4 &&
    decodesTo 0x6A .ldLD 1 && costs .ldLD 4 4 &&
    decodesTo 0x6B .ldLE 1 && costs .ldLE 4 4 &&
    decodesTo 0x6C .ldLH 1 && costs .ldLH 4 4 &&
    decodesTo 0x6D .ldLL 1 && costs .ldLL 4 4 &&
    decodesTo 0x6E .ldLAtHl 1 && costs .ldLAtHl 8 8 &&
    decodesTo 0x6F .ldLA 1 && costs .ldLA 4 4) = true := by
  decide

theorem test_primary_map_row_7 : (decodesTo 0x70 .ldAtHlB 1 && costs .ldAtHlB 8 8 &&
    decodesTo 0x71 .ldAtHlC 1 && costs .ldAtHlC 8 8 &&
    decodesTo 0x72 .ldAtHlD 1 && costs .ldAtHlD 8 8 &&
    decodesTo 0x73 .ldAtHlE 1 && costs .ldAtHlE 8 8 &&
    decodesTo 0x74 .ldAtHlH 1 && costs .ldAtHlH 8 8 &&
    decodesTo 0x75 .ldAtHlL 1 && costs .ldAtHlL 8 8 &&
    decodesTo 0x76 .halt 1 && costs .halt 4 4 &&
    decodesTo 0x77 .ldAtHlA 1 && costs .ldAtHlA 8 8 &&
    decodesTo 0x78 .ldAB 1 && costs .ldAB 4 4 &&
    decodesTo 0x79 .ldAC 1 && costs .ldAC 4 4 &&
    decodesTo 0x7A .ldAD 1 && costs .ldAD 4 4 &&
    decodesTo 0x7B .ldAE 1 && costs .ldAE 4 4 &&
    decodesTo 0x7C .ldAH 1 && costs .ldAH 4 4 &&
    decodesTo 0x7D .ldAL 1 && costs .ldAL 4 4 &&
    decodesTo 0x7E .ldAAtHl 1 && costs .ldAAtHl 8 8 &&
    decodesTo 0x7F .ldAA 1 && costs .ldAA 4 4) = true := by
  decide

theorem test_primary_map_row_8 : (decodesTo 0x80 .addAB 1 && costs .addAB 4 4 &&
    decodesTo 0x81 .addAC 1 && costs .addAC 4 4 &&
    decodesTo 0x82 .addAD 1 && costs .addAD 4 4 &&
    decodesTo 0x83 .addAE 1 && costs .addAE 4 4 &&
    decodesTo 0x84 .addAH 1 && costs .addAH 4 4 &&
    decodesTo 0x85 .addAL 1 && costs .addAL 4 4 &&
    decodesTo 0x86 .addAAtHl 1 && costs .addAAtHl 8 8 &&
    decodesTo 0x87 .addAA 1 && costs .addAA 4 4 &&
    decodesTo 0x88 .adcAB 1 && costs .adcAB 4 4 &&
    decodesTo 0x89 .adcAC 1 && costs .adcAC 4 4 &&
    decodesTo 0x8A .adcAD 1 && costs .adcAD 4 4 &&
    decodesTo 0x8B .adcAE 1 && costs .adcAE 4 4 &&
    decodesTo 0x8C .adcAH 1 && costs .adcAH 4 4 &&
    decodesTo 0x8D .adcAL 1 && costs .adcAL 4 4 &&
    decodesTo 0x8E .adcAAtHl 1 && costs .adcAAtHl 8 8 &&
    decodesTo 0x8F .adcAA 1 && costs .adcAA 4 4) = true := by
  decide

theorem test_primary_map_row_9 : (decodesTo 0x90 .subB 1 && costs .subB 4 4 &&
    decodesTo 0x91 .subC 1 && costs .subC 4 4 &&
    decodesTo 0x92 .subD 1 && costs .subD 4 4 &&
    decodesTo 0x93 .subE 1 && costs .subE 4 4 &&
    decodesTo 0x94 .subH 1 && costs .subH 4 4 &&
    decodesTo 0x95 .subL 1 && costs .subL 4 4 &&
    decodesTo 0x96 .subAtHl 1 && costs .subAtHl 8 8 &&
    decodesTo 0x97 .subA 1 && costs .subA 4 4 &&
    decodesTo 0x98 .sbcAB 1 && costs .sbcAB 4 4 &&
    decodesTo 0x99 .sbcAC 1 && costs .sbcAC 4 4 &&
    decodesTo 0x9A .sbcAD 1 && costs .sbcAD 4 4 &&
    decodesTo 0x9B .sbcAE 1 && costs .sbcAE 4 4 &&
    decodesTo 0x9C .sbcAH 1 && costs .sbcAH 4 4 &&
    decodesTo 0x9D .sbcAL 1 && costs .sbcAL 4 4 &&
    decodesTo 0x9E .sbcAAtHl 1 && costs .sbcAAtHl 8 8 &&
    decodesTo 0x9F .sbcAA 1 && costs .sbcAA 4 4) = true := by
  decide

theorem test_primary_map_row_A : (decodesTo 0xA0 .andB 1 && costs .andB 4 4 &&
    decodesTo 0xA1 .andC 1 && costs .andC 4 4 &&
    decodesTo 0xA2 .andD 1 && costs .andD 4 4 &&
    decodesTo 0xA3 .andE 1 && costs .andE 4 4 &&
    decodesTo 0xA4 .andH 1 && costs .andH 4 4 &&
    decodesTo 0xA5 .andL 1 && costs .andL 4 4 &&
    decodesTo 0xA6 .andAtHl 1 && costs .andAtHl 8 8 &&
    decodesTo 0xA7 .andA 1 && costs .andA 4 4 &&
    decodesTo 0xA8 .xorB 1 && costs .xorB 4 4 &&
    decodesTo 0xA9 .xorC 1 && costs .xorC 4 4 &&
    decodesTo 0xAA .xorD 1 && costs .xorD 4 4 &&
    decodesTo 0xAB .xorE 1 && costs .xorE 4 4 &&
    decodesTo 0xAC .xorH 1 && costs .xorH 4 4 &&
    decodesTo 0xAD .xorL 1 && costs .xorL 4 4 &&
    decodesTo 0xAE .xorAtHl 1 && costs .xorAtHl 8 8 &&
    decodesTo 0xAF .xorA 1 && costs .xorA 4 4) = true := by
  decide

theorem test_primary_map_row_B : (decodesTo 0xB0 .orB 1 && costs .orB 4 4 &&
    decodesTo 0xB1 .orC 1 && costs .orC 4 4 &&
    decodesTo 0xB2 .orD 1 && costs .orD 4 4 &&
    decodesTo 0xB3 .orE 1 && costs .orE 4 4 &&
    decodesTo 0xB4 .orH 1 && costs .orH 4 4 &&
    decodesTo 0xB5 .orL 1 && costs .orL 4 4 &&
    decodesTo 0xB6 .orAtHl 1 && costs .orAtHl 8 8 &&
    decodesTo 0xB7 .orA 1 && costs .orA 4 4 &&
    decodesTo 0xB8 .cpB 1 && costs .cpB 4 4 &&
    decodesTo 0xB9 .cpC 1 && costs .cpC 4 4 &&
    decodesTo 0xBA .cpD 1 && costs .cpD 4 4 &&
    decodesTo 0xBB .cpE 1 && costs .cpE 4 4 &&
    decodesTo 0xBC .cpH 1 && costs .cpH 4 4 &&
    decodesTo 0xBD .cpL 1 && costs .cpL 4 4 &&
    decodesTo 0xBE .cpAtHl 1 && costs .cpAtHl 8 8 &&
    decodesTo 0xBF .cpA 1 && costs .cpA 4 4) = true := by
  decide

theorem test_primary_map_row_C : (decodesTo 0xC0 .retNz 1 && costs .retNz 20 8 &&
    decodesTo 0xC1 .popBc 1 && costs .popBc 12 12 &&
    decodesTo 0xC2 (.jpNzA16 0x1234) 3 && costs (.jpNzA16 0x1234) 16 12 &&
    decodesTo 0xC3 (.jpA16 0x1234) 3 && costs (.jpA16 0x1234) 16 16 &&
    decodesTo 0xC4 (.callNzA16 0x1234) 3 && costs (.callNzA16 0x1234) 24 12 &&
    decodesTo 0xC5 .pushBc 1 && costs .pushBc 16 16 &&
    decodesTo 0xC6 (.addAD8 0x34) 2 && costs (.addAD8 0x34) 8 8 &&
    decodesTo 0xC7 .rst00 1 && costs .rst00 16 16 &&
    decodesTo 0xC8 .retZ 1 && costs .retZ 8 20 &&
    decodesTo 0xC9 .ret 1 && costs .ret 16 16 &&
    decodesTo 0xCA (.jpZA16 0x1234) 3 && costs (.jpZA16 0x1234) 12 16 &&
    decodesTo 0xCC (.callZA16 0x1234) 3 && costs (.callZA16 0x1234) 12 24 &&
    decodesTo 0xCD (.callA16 0x1234) 3 && costs (.callA16 0x1234) 24 24 &&
    decodesTo 0xCE (.adcAD8 0x34) 2 && costs (.adcAD8 0x34) 8 8 &&
    decodesTo 0xCF .rst08 1 && costs .rst08 16 16) = true := by
  decide

theorem test_primary_map_row_D : (decodesTo 0xD0 .retNc 1 && costs .retNc 20 8 &&
    decodesTo 0xD1 .popDe 1 && costs .popDe 12 12 &&
    decodesTo 0xD2 (.jpNcA16 0x1234) 3 && costs (.jpNcA16 0x1234) 16 12 &&
    decodesTo 0xD3 .illegalD3 1 && costs .illegalD3 0 0 &&
    decodesTo 0xD4 (.callNcA16 0x1234) 3 && costs (.callNcA16 0x1234) 24 12 &&
    decodesTo 0xD5 .pushDe 1 && costs .pushDe 16 16 &&
    decodesTo 0xD6 (.subD8 0x34) 2 && costs (.subD8 0x34) 8 8 &&
    decodesTo 0xD7 .rst10 1 && costs .rst10 16 16 &&
    decodesTo 0xD8 .retC 1 && costs .retC 8 20 &&
    decodesTo 0xD9 .reti 1 && costs .reti 16 16 &&
    decodesTo 0xDA (.jpCA16 0x1234) 3 && costs (.jpCA16 0x1234) 12 16 &&
    decodesTo 0xDB .illegalDB 1 && costs .illegalDB 0 0 &&
    decodesTo 0xDC (.callCA16 0x1234) 3 && costs (.callCA16 0x1234) 12 24 &&
    decodesTo 0xDD .illegalDD 1 && costs .illegalDD 0 0 &&
    decodesTo 0xDE (.sbcAD8 0x34) 2 && costs (.sbcAD8 0x34) 8 8 &&
    decodesTo 0xDF .rst18 1 && costs .rst18 16 16) = true := by
  decide

theorem test_primary_map_row_E : (decodesTo 0xE0 (.ldhAtA8A 0x34) 2 && costs (.ldhAtA8A 0x34) 12 12 &&
    decodesTo 0xE1 .popHl 1 && costs .popHl 12 12 &&
    decodesTo 0xE2 .ldAtCA 1 && costs .ldAtCA 8 8 &&
    decodesTo 0xE3 .illegalE3 1 && costs .illegalE3 0 0 &&
    decodesTo 0xE4 .illegalE4 1 && costs .illegalE4 0 0 &&
    decodesTo 0xE5 .pushHl 1 && costs .pushHl 16 16 &&
    decodesTo 0xE6 (.andD8 0x34) 2 && costs (.andD8 0x34) 8 8 &&
    decodesTo 0xE7 .rst20 1 && costs .rst20 16 16 &&
    decodesTo 0xE8 (.addSpE8 0x34) 2 && costs (.addSpE8 0x34) 16 16 &&
    decodesTo 0xE9 .jpHl 1 && costs .jpHl 4 4 &&
    decodesTo 0xEA (.ldAtA16A 0x1234) 3 && costs (.ldAtA16A 0x1234) 16 16 &&
    decodesTo 0xEB .illegalEB 1 && costs .illegalEB 0 0 &&
    decodesTo 0xEC .illegalEC 1 && costs .illegalEC 0 0 &&
    decodesTo 0xED .illegalED 1 && costs .illegalED 0 0 &&
    decodesTo 0xEE (.xorD8 0x34) 2 && costs (.xorD8 0x34) 8 8 &&
    decodesTo 0xEF .rst28 1 && costs .rst28 16 16) = true := by
  decide

theorem test_primary_map_row_F : (decodesTo 0xF0 (.ldhAAtA8 0x34) 2 && costs (.ldhAAtA8 0x34) 12 12 &&
    decodesTo 0xF1 .popAf 1 && costs .popAf 12 12 &&
    decodesTo 0xF2 .ldAAtC 1 && costs .ldAAtC 8 8 &&
    decodesTo 0xF3 .di 1 && costs .di 4 4 &&
    decodesTo 0xF4 .illegalF4 1 && costs .illegalF4 0 0 &&
    decodesTo 0xF5 .pushAf 1 && costs .pushAf 16 16 &&
    decodesTo 0xF6 (.orD8 0x34) 2 && costs (.orD8 0x34) 8 8 &&
    decodesTo 0xF7 .rst30 1 && costs .rst30 16 16 &&
    decodesTo 0xF8 (.ldHlSpE8 0x34) 2 && costs (.ldHlSpE8 0x34) 12 12 &&
    decodesTo 0xF9 .ldSpHl 1 && costs .ldSpHl 8 8 &&
    decodesTo 0xFA (.ldAAtA16 0x1234) 3 && costs (.ldAAtA16 0x1234) 16 16 &&
    decodesTo 0xFB .ei 1 && costs .ei 4 4 &&
    decodesTo 0xFC .illegalFC 1 && costs .illegalFC 0 0 &&
    decodesTo 0xFD .illegalFD 1 && costs .illegalFD 0 0 &&
    decodesTo 0xFE (.cpD8 0x34) 2 && costs (.cpD8 0x34) 8 8 &&
    decodesTo 0xFF .rst38 1 && costs .rst38 16 16) = true := by
  decide

theorem test_cb_map_row_0 : (decodesCb 0x00 .rlcB && costs .rlcB 8 8 &&
    decodesCb 0x01 .rlcC && costs .rlcC 8 8 &&
    decodesCb 0x02 .rlcD && costs .rlcD 8 8 &&
    decodesCb 0x03 .rlcE && costs .rlcE 8 8 &&
    decodesCb 0x04 .rlcH && costs .rlcH 8 8 &&
    decodesCb 0x05 .rlcL && costs .rlcL 8 8 &&
    decodesCb 0x06 .rlcAtHl && costs .rlcAtHl 16 16 &&
    decodesCb 0x07 .rlcA && costs .rlcA 8 8 &&
    decodesCb 0x08 .rrcB && costs .rrcB 8 8 &&
    decodesCb 0x09 .rrcC && costs .rrcC 8 8 &&
    decodesCb 0x0A .rrcD && costs .rrcD 8 8 &&
    decodesCb 0x0B .rrcE && costs .rrcE 8 8 &&
    decodesCb 0x0C .rrcH && costs .rrcH 8 8 &&
    decodesCb 0x0D .rrcL && costs .rrcL 8 8 &&
    decodesCb 0x0E .rrcAtHl && costs .rrcAtHl 16 16 &&
    decodesCb 0x0F .rrcA && costs .rrcA 8 8) = true := by
  decide

theorem test_cb_map_row_1 : (decodesCb 0x10 .rlB && costs .rlB 8 8 &&
    decodesCb 0x11 .rlC && costs .rlC 8 8 &&
    decodesCb 0x12 .rlD && costs .rlD 8 8 &&
    decodesCb 0x13 .rlE && costs .rlE 8 8 &&
    decodesCb 0x14 .rlH && costs .rlH 8 8 &&
    decodesCb 0x15 .rlL && costs .rlL 8 8 &&
    decodesCb 0x16 .rlAtHl && costs .rlAtHl 16 16 &&
    decodesCb 0x17 .rlA && costs .rlA 8 8 &&
    decodesCb 0x18 .rrB && costs .rrB 8 8 &&
    decodesCb 0x19 .rrC && costs .rrC 8 8 &&
    decodesCb 0x1A .rrD && costs .rrD 8 8 &&
    decodesCb 0x1B .rrE && costs .rrE 8 8 &&
    decodesCb 0x1C .rrH && costs .rrH 8 8 &&
    decodesCb 0x1D .rrL && costs .rrL 8 8 &&
    decodesCb 0x1E .rrAtHl && costs .rrAtHl 16 16 &&
    decodesCb 0x1F .rrA && costs .rrA 8 8) = true := by
  decide

theorem test_cb_map_row_2 : (decodesCb 0x20 .slaB && costs .slaB 8 8 &&
    decodesCb 0x21 .slaC && costs .slaC 8 8 &&
    decodesCb 0x22 .slaD && costs .slaD 8 8 &&
    decodesCb 0x23 .slaE && costs .slaE 8 8 &&
    decodesCb 0x24 .slaH && costs .slaH 8 8 &&
    decodesCb 0x25 .slaL && costs .slaL 8 8 &&
    decodesCb 0x26 .slaAtHl && costs .slaAtHl 16 16 &&
    decodesCb 0x27 .slaA && costs .slaA 8 8 &&
    decodesCb 0x28 .sraB && costs .sraB 8 8 &&
    decodesCb 0x29 .sraC && costs .sraC 8 8 &&
    decodesCb 0x2A .sraD && costs .sraD 8 8 &&
    decodesCb 0x2B .sraE && costs .sraE 8 8 &&
    decodesCb 0x2C .sraH && costs .sraH 8 8 &&
    decodesCb 0x2D .sraL && costs .sraL 8 8 &&
    decodesCb 0x2E .sraAtHl && costs .sraAtHl 16 16 &&
    decodesCb 0x2F .sraA && costs .sraA 8 8) = true := by
  decide

theorem test_cb_map_row_3 : (decodesCb 0x30 .swapB && costs .swapB 8 8 &&
    decodesCb 0x31 .swapC && costs .swapC 8 8 &&
    decodesCb 0x32 .swapD && costs .swapD 8 8 &&
    decodesCb 0x33 .swapE && costs .swapE 8 8 &&
    decodesCb 0x34 .swapH && costs .swapH 8 8 &&
    decodesCb 0x35 .swapL && costs .swapL 8 8 &&
    decodesCb 0x36 .swapAtHl && costs .swapAtHl 16 16 &&
    decodesCb 0x37 .swapA && costs .swapA 8 8 &&
    decodesCb 0x38 .srlB && costs .srlB 8 8 &&
    decodesCb 0x39 .srlC && costs .srlC 8 8 &&
    decodesCb 0x3A .srlD && costs .srlD 8 8 &&
    decodesCb 0x3B .srlE && costs .srlE 8 8 &&
    decodesCb 0x3C .srlH && costs .srlH 8 8 &&
    decodesCb 0x3D .srlL && costs .srlL 8 8 &&
    decodesCb 0x3E .srlAtHl && costs .srlAtHl 16 16 &&
    decodesCb 0x3F .srlA && costs .srlA 8 8) = true := by
  decide

theorem test_cb_map_row_4 : (decodesCb 0x40 .bit0B && costs .bit0B 8 8 &&
    decodesCb 0x41 .bit0C && costs .bit0C 8 8 &&
    decodesCb 0x42 .bit0D && costs .bit0D 8 8 &&
    decodesCb 0x43 .bit0E && costs .bit0E 8 8 &&
    decodesCb 0x44 .bit0H && costs .bit0H 8 8 &&
    decodesCb 0x45 .bit0L && costs .bit0L 8 8 &&
    decodesCb 0x46 .bit0AtHl && costs .bit0AtHl 12 12 &&
    decodesCb 0x47 .bit0A && costs .bit0A 8 8 &&
    decodesCb 0x48 .bit1B && costs .bit1B 8 8 &&
    decodesCb 0x49 .bit1C && costs .bit1C 8 8 &&
    decodesCb 0x4A .bit1D && costs .bit1D 8 8 &&
    decodesCb 0x4B .bit1E && costs .bit1E 8 8 &&
    decodesCb 0x4C .bit1H && costs .bit1H 8 8 &&
    decodesCb 0x4D .bit1L && costs .bit1L 8 8 &&
    decodesCb 0x4E .bit1AtHl && costs .bit1AtHl 12 12 &&
    decodesCb 0x4F .bit1A && costs .bit1A 8 8) = true := by
  decide

theorem test_cb_map_row_5 : (decodesCb 0x50 .bit2B && costs .bit2B 8 8 &&
    decodesCb 0x51 .bit2C && costs .bit2C 8 8 &&
    decodesCb 0x52 .bit2D && costs .bit2D 8 8 &&
    decodesCb 0x53 .bit2E && costs .bit2E 8 8 &&
    decodesCb 0x54 .bit2H && costs .bit2H 8 8 &&
    decodesCb 0x55 .bit2L && costs .bit2L 8 8 &&
    decodesCb 0x56 .bit2AtHl && costs .bit2AtHl 12 12 &&
    decodesCb 0x57 .bit2A && costs .bit2A 8 8 &&
    decodesCb 0x58 .bit3B && costs .bit3B 8 8 &&
    decodesCb 0x59 .bit3C && costs .bit3C 8 8 &&
    decodesCb 0x5A .bit3D && costs .bit3D 8 8 &&
    decodesCb 0x5B .bit3E && costs .bit3E 8 8 &&
    decodesCb 0x5C .bit3H && costs .bit3H 8 8 &&
    decodesCb 0x5D .bit3L && costs .bit3L 8 8 &&
    decodesCb 0x5E .bit3AtHl && costs .bit3AtHl 12 12 &&
    decodesCb 0x5F .bit3A && costs .bit3A 8 8) = true := by
  decide

theorem test_cb_map_row_6 : (decodesCb 0x60 .bit4B && costs .bit4B 8 8 &&
    decodesCb 0x61 .bit4C && costs .bit4C 8 8 &&
    decodesCb 0x62 .bit4D && costs .bit4D 8 8 &&
    decodesCb 0x63 .bit4E && costs .bit4E 8 8 &&
    decodesCb 0x64 .bit4H && costs .bit4H 8 8 &&
    decodesCb 0x65 .bit4L && costs .bit4L 8 8 &&
    decodesCb 0x66 .bit4AtHl && costs .bit4AtHl 12 12 &&
    decodesCb 0x67 .bit4A && costs .bit4A 8 8 &&
    decodesCb 0x68 .bit5B && costs .bit5B 8 8 &&
    decodesCb 0x69 .bit5C && costs .bit5C 8 8 &&
    decodesCb 0x6A .bit5D && costs .bit5D 8 8 &&
    decodesCb 0x6B .bit5E && costs .bit5E 8 8 &&
    decodesCb 0x6C .bit5H && costs .bit5H 8 8 &&
    decodesCb 0x6D .bit5L && costs .bit5L 8 8 &&
    decodesCb 0x6E .bit5AtHl && costs .bit5AtHl 12 12 &&
    decodesCb 0x6F .bit5A && costs .bit5A 8 8) = true := by
  decide

theorem test_cb_map_row_7 : (decodesCb 0x70 .bit6B && costs .bit6B 8 8 &&
    decodesCb 0x71 .bit6C && costs .bit6C 8 8 &&
    decodesCb 0x72 .bit6D && costs .bit6D 8 8 &&
    decodesCb 0x73 .bit6E && costs .bit6E 8 8 &&
    decodesCb 0x74 .bit6H && costs .bit6H 8 8 &&
    decodesCb 0x75 .bit6L && costs .bit6L 8 8 &&
    decodesCb 0x76 .bit6AtHl && costs .bit6AtHl 12 12 &&
    decodesCb 0x77 .bit6A && costs .bit6A 8 8 &&
    decodesCb 0x78 .bit7B && costs .bit7B 8 8 &&
    decodesCb 0x79 .bit7C && costs .bit7C 8 8 &&
    decodesCb 0x7A .bit7D && costs .bit7D 8 8 &&
    decodesCb 0x7B .bit7E && costs .bit7E 8 8 &&
    decodesCb 0x7C .bit7H && costs .bit7H 8 8 &&
    decodesCb 0x7D .bit7L && costs .bit7L 8 8 &&
    decodesCb 0x7E .bit7AtHl && costs .bit7AtHl 12 12 &&
    decodesCb 0x7F .bit7A && costs .bit7A 8 8) = true := by
  decide

theorem test_cb_map_row_8 : (decodesCb 0x80 .res0B && costs .res0B 8 8 &&
    decodesCb 0x81 .res0C && costs .res0C 8 8 &&
    decodesCb 0x82 .res0D && costs .res0D 8 8 &&
    decodesCb 0x83 .res0E && costs .res0E 8 8 &&
    decodesCb 0x84 .res0H && costs .res0H 8 8 &&
    decodesCb 0x85 .res0L && costs .res0L 8 8 &&
    decodesCb 0x86 .res0AtHl && costs .res0AtHl 16 16 &&
    decodesCb 0x87 .res0A && costs .res0A 8 8 &&
    decodesCb 0x88 .res1B && costs .res1B 8 8 &&
    decodesCb 0x89 .res1C && costs .res1C 8 8 &&
    decodesCb 0x8A .res1D && costs .res1D 8 8 &&
    decodesCb 0x8B .res1E && costs .res1E 8 8 &&
    decodesCb 0x8C .res1H && costs .res1H 8 8 &&
    decodesCb 0x8D .res1L && costs .res1L 8 8 &&
    decodesCb 0x8E .res1AtHl && costs .res1AtHl 16 16 &&
    decodesCb 0x8F .res1A && costs .res1A 8 8) = true := by
  decide

theorem test_cb_map_row_9 : (decodesCb 0x90 .res2B && costs .res2B 8 8 &&
    decodesCb 0x91 .res2C && costs .res2C 8 8 &&
    decodesCb 0x92 .res2D && costs .res2D 8 8 &&
    decodesCb 0x93 .res2E && costs .res2E 8 8 &&
    decodesCb 0x94 .res2H && costs .res2H 8 8 &&
    decodesCb 0x95 .res2L && costs .res2L 8 8 &&
    decodesCb 0x96 .res2AtHl && costs .res2AtHl 16 16 &&
    decodesCb 0x97 .res2A && costs .res2A 8 8 &&
    decodesCb 0x98 .res3B && costs .res3B 8 8 &&
    decodesCb 0x99 .res3C && costs .res3C 8 8 &&
    decodesCb 0x9A .res3D && costs .res3D 8 8 &&
    decodesCb 0x9B .res3E && costs .res3E 8 8 &&
    decodesCb 0x9C .res3H && costs .res3H 8 8 &&
    decodesCb 0x9D .res3L && costs .res3L 8 8 &&
    decodesCb 0x9E .res3AtHl && costs .res3AtHl 16 16 &&
    decodesCb 0x9F .res3A && costs .res3A 8 8) = true := by
  decide

theorem test_cb_map_row_A : (decodesCb 0xA0 .res4B && costs .res4B 8 8 &&
    decodesCb 0xA1 .res4C && costs .res4C 8 8 &&
    decodesCb 0xA2 .res4D && costs .res4D 8 8 &&
    decodesCb 0xA3 .res4E && costs .res4E 8 8 &&
    decodesCb 0xA4 .res4H && costs .res4H 8 8 &&
    decodesCb 0xA5 .res4L && costs .res4L 8 8 &&
    decodesCb 0xA6 .res4AtHl && costs .res4AtHl 16 16 &&
    decodesCb 0xA7 .res4A && costs .res4A 8 8 &&
    decodesCb 0xA8 .res5B && costs .res5B 8 8 &&
    decodesCb 0xA9 .res5C && costs .res5C 8 8 &&
    decodesCb 0xAA .res5D && costs .res5D 8 8 &&
    decodesCb 0xAB .res5E && costs .res5E 8 8 &&
    decodesCb 0xAC .res5H && costs .res5H 8 8 &&
    decodesCb 0xAD .res5L && costs .res5L 8 8 &&
    decodesCb 0xAE .res5AtHl && costs .res5AtHl 16 16 &&
    decodesCb 0xAF .res5A && costs .res5A 8 8) = true := by
  decide

theorem test_cb_map_row_B : (decodesCb 0xB0 .res6B && costs .res6B 8 8 &&
    decodesCb 0xB1 .res6C && costs .res6C 8 8 &&
    decodesCb 0xB2 .res6D && costs .res6D 8 8 &&
    decodesCb 0xB3 .res6E && costs .res6E 8 8 &&
    decodesCb 0xB4 .res6H && costs .res6H 8 8 &&
    decodesCb 0xB5 .res6L && costs .res6L 8 8 &&
    decodesCb 0xB6 .res6AtHl && costs .res6AtHl 16 16 &&
    decodesCb 0xB7 .res6A && costs .res6A 8 8 &&
    decodesCb 0xB8 .res7B && costs .res7B 8 8 &&
    decodesCb 0xB9 .res7C && costs .res7C 8 8 &&
    decodesCb 0xBA .res7D && costs .res7D 8 8 &&
    decodesCb 0xBB .res7E && costs .res7E 8 8 &&
    decodesCb 0xBC .res7H && costs .res7H 8 8 &&
    decodesCb 0xBD .res7L && costs .res7L 8 8 &&
    decodesCb 0xBE .res7AtHl && costs .res7AtHl 16 16 &&
    decodesCb 0xBF .res7A && costs .res7A 8 8) = true := by
  decide

theorem test_cb_map_row_C : (decodesCb 0xC0 .set0B && costs .set0B 8 8 &&
    decodesCb 0xC1 .set0C && costs .set0C 8 8 &&
    decodesCb 0xC2 .set0D && costs .set0D 8 8 &&
    decodesCb 0xC3 .set0E && costs .set0E 8 8 &&
    decodesCb 0xC4 .set0H && costs .set0H 8 8 &&
    decodesCb 0xC5 .set0L && costs .set0L 8 8 &&
    decodesCb 0xC6 .set0AtHl && costs .set0AtHl 16 16 &&
    decodesCb 0xC7 .set0A && costs .set0A 8 8 &&
    decodesCb 0xC8 .set1B && costs .set1B 8 8 &&
    decodesCb 0xC9 .set1C && costs .set1C 8 8 &&
    decodesCb 0xCA .set1D && costs .set1D 8 8 &&
    decodesCb 0xCB .set1E && costs .set1E 8 8 &&
    decodesCb 0xCC .set1H && costs .set1H 8 8 &&
    decodesCb 0xCD .set1L && costs .set1L 8 8 &&
    decodesCb 0xCE .set1AtHl && costs .set1AtHl 16 16 &&
    decodesCb 0xCF .set1A && costs .set1A 8 8) = true := by
  decide

theorem test_cb_map_row_D : (decodesCb 0xD0 .set2B && costs .set2B 8 8 &&
    decodesCb 0xD1 .set2C && costs .set2C 8 8 &&
    decodesCb 0xD2 .set2D && costs .set2D 8 8 &&
    decodesCb 0xD3 .set2E && costs .set2E 8 8 &&
    decodesCb 0xD4 .set2H && costs .set2H 8 8 &&
    decodesCb 0xD5 .set2L && costs .set2L 8 8 &&
    decodesCb 0xD6 .set2AtHl && costs .set2AtHl 16 16 &&
    decodesCb 0xD7 .set2A && costs .set2A 8 8 &&
    decodesCb 0xD8 .set3B && costs .set3B 8 8 &&
    decodesCb 0xD9 .set3C && costs .set3C 8 8 &&
    decodesCb 0xDA .set3D && costs .set3D 8 8 &&
    decodesCb 0xDB .set3E && costs .set3E 8 8 &&
    decodesCb 0xDC .set3H && costs .set3H 8 8 &&
    decodesCb 0xDD .set3L && costs .set3L 8 8 &&
    decodesCb 0xDE .set3AtHl && costs .set3AtHl 16 16 &&
    decodesCb 0xDF .set3A && costs .set3A 8 8) = true := by
  decide

theorem test_cb_map_row_E : (decodesCb 0xE0 .set4B && costs .set4B 8 8 &&
    decodesCb 0xE1 .set4C && costs .set4C 8 8 &&
    decodesCb 0xE2 .set4D && costs .set4D 8 8 &&
    decodesCb 0xE3 .set4E && costs .set4E 8 8 &&
    decodesCb 0xE4 .set4H && costs .set4H 8 8 &&
    decodesCb 0xE5 .set4L && costs .set4L 8 8 &&
    decodesCb 0xE6 .set4AtHl && costs .set4AtHl 16 16 &&
    decodesCb 0xE7 .set4A && costs .set4A 8 8 &&
    decodesCb 0xE8 .set5B && costs .set5B 8 8 &&
    decodesCb 0xE9 .set5C && costs .set5C 8 8 &&
    decodesCb 0xEA .set5D && costs .set5D 8 8 &&
    decodesCb 0xEB .set5E && costs .set5E 8 8 &&
    decodesCb 0xEC .set5H && costs .set5H 8 8 &&
    decodesCb 0xED .set5L && costs .set5L 8 8 &&
    decodesCb 0xEE .set5AtHl && costs .set5AtHl 16 16 &&
    decodesCb 0xEF .set5A && costs .set5A 8 8) = true := by
  decide

theorem test_cb_map_row_F : (decodesCb 0xF0 .set6B && costs .set6B 8 8 &&
    decodesCb 0xF1 .set6C && costs .set6C 8 8 &&
    decodesCb 0xF2 .set6D && costs .set6D 8 8 &&
    decodesCb 0xF3 .set6E && costs .set6E 8 8 &&
    decodesCb 0xF4 .set6H && costs .set6H 8 8 &&
    decodesCb 0xF5 .set6L && costs .set6L 8 8 &&
    decodesCb 0xF6 .set6AtHl && costs .set6AtHl 16 16 &&
    decodesCb 0xF7 .set6A && costs .set6A 8 8 &&
    decodesCb 0xF8 .set7B && costs .set7B 8 8 &&
    decodesCb 0xF9 .set7C && costs .set7C 8 8 &&
    decodesCb 0xFA .set7D && costs .set7D 8 8 &&
    decodesCb 0xFB .set7E && costs .set7E 8 8 &&
    decodesCb 0xFC .set7H && costs .set7H 8 8 &&
    decodesCb 0xFD .set7L && costs .set7L 8 8 &&
    decodesCb 0xFE .set7AtHl && costs .set7AtHl 16 16 &&
    decodesCb 0xFF .set7A && costs .set7A 8 8) = true := by
  decide

/-! ### The CPU step: vectors of spec/95_test_vectors.md §2 -/

/-- §2's start: every register 0 but SP and PC. -/
def regs0 : Regs := ⟨0, ⟨false, false, false, false⟩, 0, 0, 0, 0, 0, 0, 0xFFFE, 0xC000⟩

/-- Memory with the program at 0xC000 and the given bytes. -/
def image (prog : List Byte) (cells : List Host.Cell) : Memory :=
  cells.foldl (fun m cell => m.write cell.1 cell.2) (Memory.writeAll [] 0xC000 prog)

/-- §2's start state, with registers and bytes put in. -/
def start (prog : List Byte) (r : Regs) (cells : List Host.Cell) : State :=
  { State.reset with regs := r, irq := ⟨0, 0⟩, mem := image prog cells }

/-- What the vectors compare. -/
def view : Result State → Option (Regs × Cpu × Irq × Memory)
  | .next t => some (t.regs, t.cpu, t.irq, t.mem)
  | .fault _ => none
  | .refused _ => none

/-- One step from the start gives the registers, the changed bytes, the cycles and IME; all else is as before. -/
def gives (prog : List Byte) (r : Regs) (cells : List Host.Cell) (r' : Regs) (changed : List Host.Cell) (cycles : Nat)
    (ime : Bool := false) : Bool :=
  view (cpuStep (start prog r cells)) =
    some (r', { Cpu.reset with cycles := cycles, ime := ime }, ⟨0, 0⟩, image prog (cells ++ changed))

theorem test_vectors_loads_to_a_register : (
    -- V1, R200: LD B,C
    gives [0x41] { regs0 with c := 0x5A } []
      { regs0 with c := 0x5A, b := 0x5A, pc := 0xC001 } [] 4 &&
    -- V2, R200: LD A,A
    gives [0x7F] { regs0 with a := 0x33, f := Flags.ofByte 0xB0 } []
      { regs0 with a := 0x33, f := Flags.ofByte 0xB0, pc := 0xC001 } [] 4 &&
    -- V3, R201: LD E,0x99
    gives [0x1E, 0x99] regs0 []
      { regs0 with e := 0x99, pc := 0xC002 } [] 8 &&
    -- V4, R202: LD A,(HL)
    gives [0x7E] { regs0 with h := 0xC1, l := 0x00 } [(0xC100, 0xAB)]
      { regs0 with h := 0xC1, l := 0x00, a := 0xAB, pc := 0xC001 } [] 8 &&
    -- V5, R204: LD (HL),0x77
    gives [0x36, 0x77] { regs0 with h := 0xC1, l := 0x00 } []
      { regs0 with h := 0xC1, l := 0x00, pc := 0xC002 } [(0xC100, 0x77)] 12 &&
    -- V6, R202: LD H,(HL)
    gives [0x66] { regs0 with h := 0xC1, l := 0x00 } [(0xC100, 0x12)]
      { regs0 with h := 0x12, l := 0x00, pc := 0xC001 } [] 8 &&
    -- V7, R203: LD (HL),H
    gives [0x74] { regs0 with h := 0xC1, l := 0xFF } []
      { regs0 with h := 0xC1, l := 0xFF, pc := 0xC001 } [(0xC1FF, 0xC1)] 8 &&
    -- V8, R205: LD A,(BC)
    gives [0x0A] { regs0 with b := 0xC2, c := 0x00 } [(0xC200, 0x5C)]
      { regs0 with b := 0xC2, c := 0x00, a := 0x5C, pc := 0xC001 } [] 8) = true := by
  decide

theorem test_vectors_loads_and_stores : (
    -- V9, R206: LD (DE),A
    gives [0x12] { regs0 with a := 0x9E, d := 0xC2, e := 0x01 } []
      { regs0 with a := 0x9E, d := 0xC2, e := 0x01, pc := 0xC001 } [(0xC201, 0x9E)] 8 &&
    -- V10, R207: LD A,(0xC300)
    gives [0xFA, 0x00, 0xC3] regs0 [(0xC300, 0x4D)]
      { regs0 with a := 0x4D, pc := 0xC003 } [] 16 &&
    -- V11, R208: LD (0xE010),A
    gives [0xEA, 0x10, 0xE0] { regs0 with a := 0x66 } []
      { regs0 with a := 0x66, pc := 0xC003 } [(0xC010, 0x66)] 16 &&
    -- V12, R210: LDH (0x80),A
    gives [0xE0, 0x80] { regs0 with a := 0x11 } []
      { regs0 with a := 0x11, pc := 0xC002 } [(0xFF80, 0x11)] 12 &&
    -- V13, R209: LDH A,(0x0F)
    gives [0xF0, 0x0F] regs0 []
      { regs0 with a := 0xE0, pc := 0xC002 } [] 12 &&
    -- V14, R211: LD A,(C)
    gives [0xF2] { regs0 with c := 0x81 } [(0xFF81, 0x22)]
      { regs0 with c := 0x81, a := 0x22, pc := 0xC001 } [] 8 &&
    -- V15, R212: LD (C),A
    gives [0xE2] { regs0 with c := 0x82, a := 0x33 } []
      { regs0 with c := 0x82, a := 0x33, pc := 0xC001 } [(0xFF82, 0x33)] 8 &&
    -- V16, R213: LD A,(HL+)
    gives [0x2A] { regs0 with h := 0xC0, l := 0xFF } [(0xC0FF, 0x44)]
      { regs0 with h := 0xC1, l := 0x00, a := 0x44, pc := 0xC001 } [] 8 &&
    -- V17, R214: LD A,(HL-)
    gives [0x3A] { regs0 with h := 0xC0, l := 0x00 } []
      { regs0 with h := 0xBF, l := 0xFF, a := 0x3A, pc := 0xC001 } [] 8 &&
    -- V19, R216: LD (HL-),A
    gives [0x32] { regs0 with h := 0xC1, l := 0x05, a := 0x01 } []
      { regs0 with h := 0xC1, l := 0x04, a := 0x01, pc := 0xC001 } [(0xC105, 0x01)] 8) = true := by
  decide

theorem test_vectors_word_loads : (
    -- V20, R217: LD SP,0x1234
    gives [0x31, 0x34, 0x12] regs0 []
      { regs0 with sp := 0x1234, pc := 0xC003 } [] 12 &&
    -- V21, R218: LD (0xC400),SP
    gives [0x08, 0x00, 0xC4] { regs0 with sp := 0xBEEF } []
      { regs0 with sp := 0xBEEF, pc := 0xC003 } [(0xC400, 0xEF), (0xC401, 0xBE)] 20 &&
    -- V22, R219: LD SP,HL
    gives [0xF9] { regs0 with h := 0x12, l := 0x34 } []
      { regs0 with h := 0x12, l := 0x34, sp := 0x1234, pc := 0xC001 } [] 8 &&
    -- V23, R220: LD HL,SP-1
    gives [0xF8, 0xFF] { regs0 with sp := 0x0005 } []
      { regs0 with sp := 0x0005, f := Flags.ofByte 0x30, l := 0x04, pc := 0xC002 } [] 12 &&
    -- V24, R220: LD HL,SP+1
    gives [0xF8, 0x01] { regs0 with sp := 0xFFFF } []
      { regs0 with sp := 0xFFFF, f := Flags.ofByte 0x30, pc := 0xC002 } [] 12 &&
    -- V25, R220: LD HL,SP+2
    gives [0xF8, 0x02] { regs0 with sp := 0xFFF8, f := Flags.ofByte 0xF0 } []
      { regs0 with sp := 0xFFF8, h := 0xFF, l := 0xFA, pc := 0xC002 } [] 12) = true := by
  decide

theorem test_vectors_silent_reads : (
    -- V26, R207: LD A,(0xFEA0)
    gives [0xFA, 0xA0, 0xFE] regs0 []
      { regs0 with a := 0xFF, pc := 0xC003 } [] 16 &&
    -- V27, R209: LDH A,(0x03)
    gives [0xF0, 0x03] regs0 []
      { regs0 with a := 0xFF, pc := 0xC002 } [] 12) = true := by
  decide

theorem test_vectors_additions : (
    -- V28, R242: ADD A,B
    gives [0x80] { regs0 with a := 0x3A, b := 0xC6 } []
      { regs0 with a := 0x00, b := 0xC6, f := Flags.ofByte 0xB0, pc := 0xC001 } [] 4 &&
    -- V29, R244: ADD A,0x01
    gives [0xC6, 0x01] { regs0 with a := 0xFF } []
      { regs0 with a := 0x00, f := Flags.ofByte 0xB0, pc := 0xC002 } [] 8 &&
    -- V30, R242: ADD A,A
    gives [0x87] { regs0 with a := 0x88 } []
      { regs0 with a := 0x10, f := Flags.ofByte 0x30, pc := 0xC001 } [] 4 &&
    -- V31, R243: ADD A,(HL)
    gives [0x86] { regs0 with a := 0x0F, h := 0xC1, l := 0x00 } [(0xC100, 0x01)]
      { regs0 with a := 0x10, h := 0xC1, l := 0x00, f := Flags.ofByte 0x20, pc := 0xC001 } [] 8 &&
    -- V32, R247: ADC A,0x00
    gives [0xCE, 0x00] { regs0 with a := 0x0F, f := Flags.ofByte 0x10 } []
      { regs0 with a := 0x10, f := Flags.ofByte 0x20, pc := 0xC002 } [] 8 &&
    -- V33, R245: ADC A,B
    gives [0x88] { regs0 with a := 0xFF, b := 0x00, f := Flags.ofByte 0x10 } []
      { regs0 with a := 0x00, b := 0x00, f := Flags.ofByte 0xB0, pc := 0xC001 } [] 4 &&
    -- V34, R245: ADC A,A
    gives [0x8F] { regs0 with a := 0x80, f := Flags.ofByte 0x10 } []
      { regs0 with a := 0x01, f := Flags.ofByte 0x10, pc := 0xC001 } [] 4) = true := by
  decide

theorem test_vectors_subtractions : (
    -- V35, R248: SUB A
    gives [0x97] { regs0 with a := 0x42 } []
      { regs0 with a := 0x00, f := Flags.ofByte 0xC0, pc := 0xC001 } [] 4 &&
    -- V36, R250: SUB 0x01
    gives [0xD6, 0x01] { regs0 with a := 0x00 } []
      { regs0 with a := 0xFF, f := Flags.ofByte 0x70, pc := 0xC002 } [] 8 &&
    -- V37, R249: SUB (HL)
    gives [0x96] { regs0 with a := 0x3E, h := 0xC1, l := 0x00 } [(0xC100, 0x0F)]
      { regs0 with a := 0x2F, h := 0xC1, l := 0x00, f := Flags.ofByte 0x60, pc := 0xC001 } [] 8 &&
    -- V38, R253: SBC A,0x00
    gives [0xDE, 0x00] { regs0 with a := 0x00, f := Flags.ofByte 0x10 } []
      { regs0 with a := 0xFF, f := Flags.ofByte 0x70, pc := 0xC002 } [] 8 &&
    -- V39, R251: SBC A,B
    gives [0x98] { regs0 with a := 0x10, b := 0x0F, f := Flags.ofByte 0x10 } []
      { regs0 with a := 0x00, b := 0x0F, f := Flags.ofByte 0xE0, pc := 0xC001 } [] 4 &&
    -- V40, R251: SBC A,A
    gives [0x9F] { regs0 with a := 0x55, f := Flags.ofByte 0x10 } []
      { regs0 with a := 0xFF, f := Flags.ofByte 0x70, pc := 0xC001 } [] 4) = true := by
  decide

theorem test_vectors_logic_and_compare : (
    -- V41, R256: AND 0x0F
    gives [0xE6, 0x0F] { regs0 with a := 0xF0, f := Flags.ofByte 0x10 } []
      { regs0 with a := 0x00, f := Flags.ofByte 0xA0, pc := 0xC002 } [] 8 &&
    -- V42, R254: AND B
    gives [0xA0] { regs0 with a := 0xF3, b := 0x3F } []
      { regs0 with a := 0x33, b := 0x3F, f := Flags.ofByte 0x20, pc := 0xC001 } [] 4 &&
    -- V43, R257: XOR A
    gives [0xAF] { regs0 with a := 0x5A, f := Flags.ofByte 0x70 } []
      { regs0 with a := 0x00, f := Flags.ofByte 0x80, pc := 0xC001 } [] 4 &&
    -- V44, R258: XOR (HL)
    gives [0xAE] { regs0 with a := 0xFF, h := 0xC1, l := 0x00 } [(0xC100, 0x0F)]
      { regs0 with a := 0xF0, h := 0xC1, l := 0x00, pc := 0xC001 } [] 8 &&
    -- V45, R262: OR 0x00
    gives [0xF6, 0x00] { regs0 with a := 0x00, f := Flags.ofByte 0x30 } []
      { regs0 with a := 0x00, f := Flags.ofByte 0x80, pc := 0xC002 } [] 8 &&
    -- V46, R260: OR C
    gives [0xB1] { regs0 with a := 0x81, c := 0x18 } []
      { regs0 with a := 0x99, c := 0x18, pc := 0xC001 } [] 4 &&
    -- V47, R265: CP 0x3C
    gives [0xFE, 0x3C] { regs0 with a := 0x3C } []
      { regs0 with a := 0x3C, f := Flags.ofByte 0xC0, pc := 0xC002 } [] 8 &&
    -- V48, R265: CP 0x40
    gives [0xFE, 0x40] { regs0 with a := 0x3C } []
      { regs0 with a := 0x3C, f := Flags.ofByte 0x50, pc := 0xC002 } [] 8 &&
    -- V49, R264: CP (HL)
    gives [0xBE] { regs0 with a := 0x10, h := 0xC1, l := 0x00 } [(0xC100, 0x01)]
      { regs0 with a := 0x10, h := 0xC1, l := 0x00, f := Flags.ofByte 0x60, pc := 0xC001 } [] 8) = true := by
  decide

theorem test_vectors_increments : (
    -- V50, R266: INC A
    gives [0x3C] { regs0 with a := 0xFF, f := Flags.ofByte 0x10 } []
      { regs0 with a := 0x00, f := Flags.ofByte 0xB0, pc := 0xC001 } [] 4 &&
    -- V51, R266: INC B
    gives [0x04] { regs0 with b := 0x0F } []
      { regs0 with b := 0x10, f := Flags.ofByte 0x20, pc := 0xC001 } [] 4 &&
    -- V52, R268: DEC A
    gives [0x3D] { regs0 with a := 0x01, f := Flags.ofByte 0x10 } []
      { regs0 with a := 0x00, f := Flags.ofByte 0xD0, pc := 0xC001 } [] 4 &&
    -- V53, R268: DEC C
    gives [0x0D] { regs0 with c := 0x00 } []
      { regs0 with c := 0xFF, f := Flags.ofByte 0x60, pc := 0xC001 } [] 4 &&
    -- V54, R267: INC (HL)
    gives [0x34] { regs0 with h := 0xC1, l := 0x00 } [(0xC100, 0xFF)]
      { regs0 with h := 0xC1, l := 0x00, f := Flags.ofByte 0xA0, pc := 0xC001 } [(0xC100, 0x00)] 12 &&
    -- V55, R269: DEC (HL)
    gives [0x35] { regs0 with h := 0xC1, l := 0x00 } [(0xC100, 0x10)]
      { regs0 with h := 0xC1, l := 0x00, f := Flags.ofByte 0x60, pc := 0xC001 } [(0xC100, 0x0F)] 12) = true := by
  decide

theorem test_vectors_word_arithmetic : (
    -- V56, R270: ADD HL,BC
    gives [0x09] { regs0 with h := 0x8A, l := 0x23, b := 0x06, c := 0x05, f := Flags.ofByte 0x80 } []
      { regs0 with h := 0x90, l := 0x28, b := 0x06, c := 0x05, f := Flags.ofByte 0xA0, pc := 0xC001 } [] 8 &&
    -- V57, R270: ADD HL,HL
    gives [0x29] { regs0 with h := 0x80, l := 0x00, f := Flags.ofByte 0x80 } []
      { regs0 with h := 0x00, l := 0x00, f := Flags.ofByte 0x90, pc := 0xC001 } [] 8 &&
    -- V58, R270: ADD HL,SP
    gives [0x39] { regs0 with h := 0xFF, l := 0xFF, sp := 0x0001 } []
      { regs0 with h := 0x00, l := 0x00, sp := 0x0001, f := Flags.ofByte 0x30, pc := 0xC001 } [] 8 &&
    -- V59, R271: INC SP
    gives [0x33] { regs0 with sp := 0xFFFF, f := Flags.ofByte 0xF0 } []
      { regs0 with sp := 0x0000, f := Flags.ofByte 0xF0, pc := 0xC001 } [] 8 &&
    -- V60, R272: DEC BC
    gives [0x0B] { regs0 with b := 0x00, c := 0x00 } []
      { regs0 with b := 0xFF, c := 0xFF, pc := 0xC001 } [] 8 &&
    -- V61, R273: ADD SP,8
    gives [0xE8, 0x08] { regs0 with sp := 0xFFF8, f := Flags.ofByte 0x80 } []
      { regs0 with sp := 0x0000, f := Flags.ofByte 0x30, pc := 0xC002 } [] 16 &&
    -- V62, R273: ADD SP,-1
    gives [0xE8, 0xFF] { regs0 with sp := 0x0005 } []
      { regs0 with sp := 0x0004, f := Flags.ofByte 0x30, pc := 0xC002 } [] 16 &&
    -- V63, R273: ADD SP,-2
    gives [0xE8, 0xFE] { regs0 with sp := 0x0000 } []
      { regs0 with sp := 0xFFFE, pc := 0xC002 } [] 16) = true := by
  decide

theorem test_vectors_daa : (
    -- V64, R345: DAA
    gives [0x27] { regs0 with a := 0x05, f := Flags.ofByte 0x60 } []
      { regs0 with a := 0xFF, f := Flags.ofByte 0x50, pc := 0xC001 } [] 4 &&
    -- V65, R345: DAA
    gives [0x27] { regs0 with a := 0x9A, f := Flags.ofByte 0x00 } []
      { regs0 with a := 0x00, f := Flags.ofByte 0x90, pc := 0xC001 } [] 4 &&
    -- V66, R345: DAA
    gives [0x27] { regs0 with a := 0x3C, f := Flags.ofByte 0x00 } []
      { regs0 with a := 0x42, pc := 0xC001 } [] 4 &&
    -- V67, R345: DAA
    gives [0x27] { regs0 with a := 0x11, f := Flags.ofByte 0x20 } []
      { regs0 with a := 0x17, pc := 0xC001 } [] 4 &&
    -- V68, R345: DAA
    gives [0x27] { regs0 with a := 0x20, f := Flags.ofByte 0x10 } []
      { regs0 with a := 0x80, f := Flags.ofByte 0x10, pc := 0xC001 } [] 4 &&
    -- V69, R345: DAA
    gives [0x27] { regs0 with a := 0xA0, f := Flags.ofByte 0x50 } []
      { regs0 with a := 0x40, f := Flags.ofByte 0x50, pc := 0xC001 } [] 4) = true := by
  decide

theorem test_vectors_flag_instructions : (
    -- V70, R346: CPL
    gives [0x2F] { regs0 with a := 0x35 } []
      { regs0 with a := 0xCA, f := Flags.ofByte 0x60, pc := 0xC001 } [] 4 &&
    -- V71, R347: SCF
    gives [0x37] { regs0 with f := Flags.ofByte 0xE0 } []
      { regs0 with f := Flags.ofByte 0x90, pc := 0xC001 } [] 4 &&
    -- V72, R348: CCF
    gives [0x3F] { regs0 with f := Flags.ofByte 0xB0 } []
      { regs0 with f := Flags.ofByte 0x80, pc := 0xC001 } [] 4 &&
    -- V73, R348: CCF
    gives [0x3F] { regs0 with f := Flags.ofByte 0x80 } []
      { regs0 with f := Flags.ofByte 0x90, pc := 0xC001 } [] 4) = true := by
  decide

theorem test_vectors_accumulator_rotates : (
    -- V74, R280: RLCA
    gives [0x07] { regs0 with a := 0x85 } []
      { regs0 with a := 0x0B, f := Flags.ofByte 0x10, pc := 0xC001 } [] 4 &&
    -- V75, R280: RLCA
    gives [0x07] { regs0 with a := 0x00, f := Flags.ofByte 0x80 } []
      { regs0 with a := 0x00, pc := 0xC001 } [] 4 &&
    -- V76, R281: RRCA
    gives [0x0F] { regs0 with a := 0x01 } []
      { regs0 with a := 0x80, f := Flags.ofByte 0x10, pc := 0xC001 } [] 4 &&
    -- V77, R282: RLA
    gives [0x17] { regs0 with a := 0x80 } []
      { regs0 with a := 0x00, f := Flags.ofByte 0x10, pc := 0xC001 } [] 4 &&
    -- V78, R283: RRA
    gives [0x1F] { regs0 with a := 0x01, f := Flags.ofByte 0x10 } []
      { regs0 with a := 0x80, f := Flags.ofByte 0x10, pc := 0xC001 } [] 4) = true := by
  decide

theorem test_vectors_rotates_and_shifts : (
    -- V79, R284: RLC B
    gives [0xCB, 0x00] { regs0 with b := 0x85 } []
      { regs0 with b := 0x0B, f := Flags.ofByte 0x10, pc := 0xC002 } [] 8 &&
    -- V80, R284: RLC B
    gives [0xCB, 0x00] { regs0 with b := 0x00 } []
      { regs0 with b := 0x00, f := Flags.ofByte 0x80, pc := 0xC002 } [] 8 &&
    -- V81, R287: RRC (HL)
    gives [0xCB, 0x0E] { regs0 with h := 0xC1, l := 0x00 } [(0xC100, 0x01)]
      { regs0 with h := 0xC1, l := 0x00, f := Flags.ofByte 0x10, pc := 0xC002 } [(0xC100, 0x80)] 16 &&
    -- V82, R288: RL C
    gives [0xCB, 0x11] { regs0 with c := 0x80 } []
      { regs0 with c := 0x00, f := Flags.ofByte 0x90, pc := 0xC002 } [] 8 &&
    -- V83, R290: RR D
    gives [0xCB, 0x1A] { regs0 with d := 0x01, f := Flags.ofByte 0x10 } []
      { regs0 with d := 0x80, f := Flags.ofByte 0x10, pc := 0xC002 } [] 8 &&
    -- V84, R292: SLA E
    gives [0xCB, 0x23] { regs0 with e := 0x80 } []
      { regs0 with e := 0x00, f := Flags.ofByte 0x90, pc := 0xC002 } [] 8 &&
    -- V85, R294: SRA H
    gives [0xCB, 0x2C] { regs0 with h := 0x81 } []
      { regs0 with h := 0xC0, f := Flags.ofByte 0x10, pc := 0xC002 } [] 8 &&
    -- V86, R296: SWAP A
    gives [0xCB, 0x37] { regs0 with a := 0xF0, f := Flags.ofByte 0x10 } []
      { regs0 with a := 0x0F, pc := 0xC002 } [] 8 &&
    -- V87, R296: SWAP L
    gives [0xCB, 0x35] { regs0 with l := 0x00 } []
      { regs0 with l := 0x00, f := Flags.ofByte 0x80, pc := 0xC002 } [] 8 &&
    -- V88, R298: SRL A
    gives [0xCB, 0x3F] { regs0 with a := 0x01 } []
      { regs0 with a := 0x00, f := Flags.ofByte 0x90, pc := 0xC002 } [] 8 &&
    -- V89, R299: SRL (HL)
    gives [0xCB, 0x3E] { regs0 with h := 0xC1, l := 0x00 } [(0xC100, 0xFF)]
      { regs0 with h := 0xC1, l := 0x00, f := Flags.ofByte 0x10, pc := 0xC002 } [(0xC100, 0x7F)] 16) = true := by
  decide

theorem test_vectors_bit_instructions : (
    -- V90, R300: BIT 7,H
    gives [0xCB, 0x7C] { regs0 with h := 0x80, f := Flags.ofByte 0x10 } []
      { regs0 with h := 0x80, f := Flags.ofByte 0x30, pc := 0xC002 } [] 8 &&
    -- V91, R300: BIT 0,A
    gives [0xCB, 0x47] { regs0 with a := 0x00 } []
      { regs0 with a := 0x00, f := Flags.ofByte 0xA0, pc := 0xC002 } [] 8 &&
    -- V92, R301: BIT 3,(HL)
    gives [0xCB, 0x5E] { regs0 with h := 0xC1, l := 0x00 } [(0xC100, 0x08)]
      { regs0 with h := 0xC1, l := 0x00, f := Flags.ofByte 0x20, pc := 0xC002 } [] 12 &&
    -- V93, R303: RES 7,(HL)
    gives [0xCB, 0xBE] { regs0 with h := 0xC1, l := 0x00 } [(0xC100, 0xFF)]
      { regs0 with h := 0xC1, l := 0x00, pc := 0xC002 } [(0xC100, 0x7F)] 16 &&
    -- V94, R302: RES 0,A
    gives [0xCB, 0x87] { regs0 with a := 0x01, f := Flags.ofByte 0xF0 } []
      { regs0 with a := 0x00, f := Flags.ofByte 0xF0, pc := 0xC002 } [] 8 &&
    -- V95, R304: SET 0,A
    gives [0xCB, 0xC7] { regs0 with a := 0x00 } []
      { regs0 with a := 0x01, pc := 0xC002 } [] 8 &&
    -- V96, R305: SET 7,(HL)
    gives [0xCB, 0xFE] { regs0 with h := 0xC1, l := 0x00 } [(0xC100, 0x00)]
      { regs0 with h := 0xC1, l := 0x00, pc := 0xC002 } [(0xC100, 0x80)] 16 &&
    -- V97, R304: SET 1,E
    gives [0xCB, 0xCB] { regs0 with e := 0x00 } []
      { regs0 with e := 0x02, pc := 0xC002 } [] 8) = true := by
  decide

theorem test_vectors_jumps : (
    -- V98, R311: JP 0x1234
    gives [0xC3, 0x34, 0x12] regs0 []
      { regs0 with pc := 0x1234 } [] 16 &&
    -- V99, R312: JP NZ,0x1234
    gives [0xC2, 0x34, 0x12] { regs0 with f := Flags.ofByte 0x00 } []
      { regs0 with pc := 0x1234 } [] 16 &&
    -- V100, R312: JP NZ,0x1234
    gives [0xC2, 0x34, 0x12] { regs0 with f := Flags.ofByte 0x80 } []
      { regs0 with f := Flags.ofByte 0x80, pc := 0xC003 } [] 12 &&
    -- V101, R313: JP HL
    gives [0xE9] { regs0 with h := 0xC1, l := 0x23 } []
      { regs0 with h := 0xC1, l := 0x23, pc := 0xC123 } [] 4 &&
    -- V102, R314: JR +5
    gives [0x18, 0x05] regs0 []
      { regs0 with pc := 0xC007 } [] 12 &&
    -- V103, R314: JR -2
    gives [0x18, 0xFE] regs0 []
      { regs0 with pc := 0xC000 } [] 12 &&
    -- V104, R315: JR C,-128
    gives [0x38, 0x80] { regs0 with f := Flags.ofByte 0x10 } []
      { regs0 with f := Flags.ofByte 0x10, pc := 0xBF82 } [] 12 &&
    -- V105, R315: JR NC,+16
    gives [0x30, 0x10] { regs0 with f := Flags.ofByte 0x10 } []
      { regs0 with f := Flags.ofByte 0x10, pc := 0xC002 } [] 8 &&
    -- V106, R315: JR Z,+16
    gives [0x28, 0x10] { regs0 with f := Flags.ofByte 0x80 } []
      { regs0 with f := Flags.ofByte 0x80, pc := 0xC012 } [] 12) = true := by
  decide

theorem test_vectors_calls : (
    -- V107, R316: CALL 0x2000
    gives [0xCD, 0x00, 0x20] { regs0 with sp := 0xFFFE } []
      { regs0 with sp := 0xFFFC, pc := 0x2000 } [(0xFFFD, 0xC0), (0xFFFC, 0x03)] 24 &&
    -- V108, R317: CALL NC,0x2000
    gives [0xD4, 0x00, 0x20] { regs0 with sp := 0xD000 } []
      { regs0 with sp := 0xCFFE, pc := 0x2000 } [(0xCFFF, 0xC0), (0xCFFE, 0x03)] 24 &&
    -- V109, R317: CALL Z,0x2000
    gives [0xCC, 0x00, 0x20] { regs0 with sp := 0xFFFE } []
      { regs0 with sp := 0xFFFE, pc := 0xC003 } [] 12 &&
    -- V114, R321: RST 0x38
    gives [0xFF] { regs0 with sp := 0xD000 } []
      { regs0 with sp := 0xCFFE, pc := 0x0038 } [(0xCFFF, 0xC0), (0xCFFE, 0x01)] 16) = true := by
  decide

theorem test_vectors_returns : (
    -- V110, R318: RET
    gives [0xC9] { regs0 with sp := 0xD000 } [(0xD000, 0x53), (0xD001, 0x01)]
      { regs0 with sp := 0xD002, pc := 0x0153 } [] 16 &&
    -- V111, R319: RET NZ
    gives [0xC0] { regs0 with sp := 0xD000, f := Flags.ofByte 0x80 } [(0xD000, 0x53), (0xD001, 0x01)]
      { regs0 with sp := 0xD000, f := Flags.ofByte 0x80, pc := 0xC001 } [] 8 &&
    -- V112, R319: RET C
    gives [0xD8] { regs0 with sp := 0xD000, f := Flags.ofByte 0x10 } [(0xD000, 0x53), (0xD001, 0x01)]
      { regs0 with sp := 0xD002, f := Flags.ofByte 0x10, pc := 0x0153 } [] 20 &&
    -- V113, R320: RETI
    gives [0xD9] { regs0 with sp := 0xD000 } [(0xD000, 0x53), (0xD001, 0x01)]
      { regs0 with sp := 0xD002, pc := 0x0153 } [] 16 true) = true := by
  decide

theorem test_vectors_push_pop : (
    -- V115, R322: PUSH AF
    gives [0xF5] { regs0 with a := 0x12, f := Flags.ofByte 0xF0, sp := 0xD000 } []
      { regs0 with a := 0x12, f := Flags.ofByte 0xF0, sp := 0xCFFE, pc := 0xC001 } [(0xCFFF, 0x12), (0xCFFE, 0xF0)] 16 &&
    -- V116, R323: POP AF
    gives [0xF1] { regs0 with sp := 0xD000 } [(0xD000, 0xFF), (0xD001, 0x77)]
      { regs0 with sp := 0xD002, a := 0x77, f := Flags.ofByte 0xF0, pc := 0xC001 } [] 12 &&
    -- V117, R323: POP HL
    gives [0xE1] { regs0 with sp := 0xD000 } [(0xD000, 0x34), (0xD001, 0x12)]
      { regs0 with sp := 0xD002, h := 0x12, l := 0x34, pc := 0xC001 } [] 12 &&
    -- V118, R322: PUSH DE
    gives [0xD5] { regs0 with d := 0xBE, e := 0xEF, sp := 0xD000 } []
      { regs0 with d := 0xBE, e := 0xEF, sp := 0xCFFE, pc := 0xC001 } [(0xCFFF, 0xBE), (0xCFFE, 0xEF)] 16) = true := by
  decide

theorem test_vectors_control : (
    -- V119, R340: NOP
    gives [0x00] regs0 []
      { regs0 with pc := 0xC001 } [] 4 &&
    -- V120, R342: STOP
    gives [0x10, 0xD3] regs0 []
      { regs0 with pc := 0xC002 } [] 4) = true := by
  decide

/-- V18, R215, R44: IE keeps bits 4..0; HL wraps. -/
theorem test_vector_store_to_ie :
    view (cpuStep (start [0x22] { regs0 with h := 0xFF, l := 0xFF, a := 0x15 } [])) =
      some ({ regs0 with a := 0x15, pc := 0xC001 }, { Cpu.reset with cycles := 8 }, ⟨0x15, 0⟩, image [0x22] []) ∧
    (State.write State.reset 0xFFFF 0x15).read 0xFFFF = 0xF5 := by decide

/-- §2's start state with CPU control state and interrupt bits put in, SP = D000. -/
def startIrq (prog : List Byte) (c : Cpu) (q : Irq) : State :=
  { start prog { regs0 with sp := 0xD000 } [] with cpu := c, irq := q }

/-- V121, R343: DI. -/
theorem test_vector_di : view (cpuStep (startIrq [0xF3] { Cpu.reset with ime := true } ⟨0, 0⟩)) =
    some ({ regs0 with sp := 0xD000, pc := 0xC001 }, { Cpu.reset with cycles := 4 }, ⟨0, 0⟩, image [0xF3] []) := by decide

/-- V122, R344: the step after EI ends with IME set. -/
theorem test_vector_step_after_ei : view (cpuStep (startIrq [0x00] { Cpu.reset with eiDelay := 1 } ⟨0, 0⟩)) =
    some ({ regs0 with sp := 0xD000, pc := 0xC001 }, { Cpu.reset with ime := true, cycles := 4 }, ⟨0, 0⟩, image [0x00] []) := by
  decide

/-- V133, R343: DI after EI leaves IME clear. -/
theorem test_vector_di_after_ei : view (cpuStep (startIrq [0xF3] { Cpu.reset with eiDelay := 1 } ⟨0x04, 0x04⟩)) =
    some ({ regs0 with sp := 0xD000, pc := 0xC001 }, { Cpu.reset with cycles := 4 }, ⟨0x04, 0x04⟩, image [0xF3] []) := by
  decide

/-- V123, R350: an illegal opcode. -/
theorem test_vector_illegal : view (cpuStep (startIrq [0xD3] Cpu.reset ⟨0, 0⟩)) =
    some ({ regs0 with sp := 0xD000 }, { Cpu.reset with fault := some ⟨0xD3, 0xC000⟩ }, ⟨0, 0⟩, image [0xD3] []) := by decide

/-- V125, R412, R416: the lowest bit wins; C000 is pushed. -/
theorem test_vector_dispatch_priority :
    view (cpuStep (startIrq [0x00] { Cpu.reset with ime := true } ⟨0x1F, 0x1F⟩)) =
      some ({ regs0 with sp := 0xCFFE, pc := 0x0040 }, { Cpu.reset with cycles := 20 }, ⟨0x1F, 0x1E⟩,
        image [0x00] [(0xCFFF, 0xC0), (0xCFFE, 0x00)]) := by decide

/-- V126, R416: the joypad's vector. -/
theorem test_vector_dispatch_joypad :
    view (cpuStep (startIrq [0x00] { Cpu.reset with ime := true } ⟨0x10, 0x10⟩)) =
      some ({ regs0 with sp := 0xCFFE, pc := 0x0060 }, { Cpu.reset with cycles := 20 }, ⟨0x10, 0x00⟩,
        image [0x00] [(0xCFFF, 0xC0), (0xCFFE, 0x00)]) := by decide

/-- V127, R411: masked by IE, the instruction runs. -/
theorem test_vector_masked_by_ie : view (cpuStep (startIrq [0x00] { Cpu.reset with ime := true } ⟨0x01, 0x04⟩)) =
    some ({ regs0 with sp := 0xD000, pc := 0xC001 }, { Cpu.reset with ime := true, cycles := 4 }, ⟨0x01, 0x04⟩,
      image [0x00] []) := by decide

/-- V128, R412: with IME = 0 the instruction runs. -/
theorem test_vector_masked_by_ime : view (cpuStep (startIrq [0x00] Cpu.reset ⟨0x04, 0x04⟩)) =
    some ({ regs0 with sp := 0xD000, pc := 0xC001 }, { Cpu.reset with cycles := 4 }, ⟨0x04, 0x04⟩, image [0x00] []) := by
  decide

/-- V129, R414: a halted CPU idles. -/
theorem test_vector_halted_idle : view (cpuStep (startIrq [0x00] { Cpu.reset with halted := true } ⟨0, 0⟩)) =
    some ({ regs0 with sp := 0xD000 }, { Cpu.reset with halted := true, cycles := 4 }, ⟨0, 0⟩, image [0x00] []) := by decide

/-- V130, R412: dispatch out of HALT. -/
theorem test_vector_dispatch_from_halt :
    view (cpuStep (startIrq [0x3C] { Cpu.reset with halted := true, ime := true } ⟨0x04, 0x04⟩)) =
      some ({ regs0 with sp := 0xCFFE, pc := 0x0050 }, { Cpu.reset with cycles := 20 }, ⟨0x04, 0x00⟩,
        image [0x3C] [(0xCFFF, 0xC0), (0xCFFE, 0x00)]) := by decide

/-- V131's first step, R413, R152: the byte after HALT is executed, and PC stays for it to be executed again. -/
theorem test_vector_halt_bug_wake : view (cpuStep (startIrq [0x3C] { Cpu.reset with halted := true } ⟨0x04, 0x04⟩)) =
    some ({ regs0 with sp := 0xD000, a := 0x01 }, { Cpu.reset with cycles := 4 }, ⟨0x04, 0x04⟩, image [0x3C] []) := by decide

/-- V137's first step, R341: `entry_pending` sets `halt_bug` at HALT. -/
theorem test_vector_halt_entry_pending :
    view (cpuStep { startIrq [0x76, 0x3C] Cpu.reset ⟨0x04, 0x04⟩ with
        config := { Config.standard with haltBugTrigger := .entryPending } }) =
      some ({ regs0 with sp := 0xD000, pc := 0xC001 }, { Cpu.reset with haltBug := true, cycles := 4 }, ⟨0x04, 0x04⟩,
        image [0x76, 0x3C] []) := by decide

/-- R349 under the HALT bug: the prefix is its own second byte, and CB CB is SET 1,E (V97). -/
theorem test_halt_bug_on_prefix : view (cpuStep (startIrq [0xCB, 0x00] { Cpu.reset with haltBug := true } ⟨0, 0⟩)) =
    some ({ regs0 with sp := 0xD000, e := 0x02, pc := 0xC001 }, { Cpu.reset with cycles := 8 }, ⟨0, 0⟩,
      image [0xCB, 0x00] []) := by decide

/-- E2's other parameter value: DAA with `DAA_SUB_BORROW_SETS_C` false gives F = 0x40. -/
theorem test_daa_without_borrow :
    (daa8 false 0x05 (Flags.ofByte 0x60)).1 = 0xFF ∧ (daa8 false 0x05 (Flags.ofByte 0x60)).2.toByte = 0x40 := by decide

/-! ### Placing an instruction, and the System step -/

/-- The step from reset with the instruction placed: PC, A, B, E and the cycles after it. -/
def placed (nbits w : Nat) : Option (Word × Byte × Byte × Byte × Nat) :=
  match step (State.reset.withFetchWord nbits w) with
  | .next t => some (t.regs.pc, t.regs.a, t.regs.b, t.regs.e, t.frameAcc)
  | .fault _ => none
  | .refused _ => none

theorem test_step_runs_placed_words :
    [placed 8 0x04, placed 16 0x9906, placed 24 0x1234C3, placed 16 0xCBCB, placed 8 0xD3] =
      [some (0x0101, 0x01, 0x01, 0xD8, 4), some (0x0102, 0x01, 0x99, 0xD8, 8), some (0x1234, 0x01, 0x00, 0xD8, 16),
        some (0x0102, 0x01, 0x00, 0xDA, 8), some (0x0100, 0x01, 0x00, 0xD8, 0)] := by decide

/-- R523: without a cartridge a step changes nothing. -/
theorem test_step_without_cartridge : step State.reset = .next State.reset := rfl

/-! ### Memory and registers (B, E9) -/

theorem test_reset_registers :
    State.reset.read 0xFF0F = 0xE1 ∧ State.reset.read 0xFFFF = 0xE0 ∧ State.reset.read 0xFF40 = 0x91 ∧
    State.reset.read 0xFF41 = 0x86 ∧ State.reset.read 0xFF04 = 0xAB ∧ State.reset.read 0xFF07 = 0xF8 ∧
    State.reset.read 0xFF00 = 0xCF ∧ State.reset.read 0xFF26 = 0xF0 ∧ State.reset.read 0xFF02 = 0x7E ∧
    State.reset.read 0xFF46 = 0xFF := by decide

/-- B1, B2: echo RAM. -/
theorem test_echo : (State.reset.write 0xE010 0x66).read 0xC010 = 0x66 ∧
    (State.reset.write 0xE010 0x66).read 0xE010 = 0x66 ∧ (State.reset.write 0xD5FF 0x12).read 0xF5FF = 0x12 := by decide

/-- B3, B4: the silent addresses. -/
theorem test_silent_reads : (State.reset.write 0xFEA0 0x55).read 0xFEA0 = 0xFF ∧ State.reset.read 0xFEFF = 0xFF ∧
    State.reset.read 0xFF03 = 0xFF ∧ State.reset.read 0xFF4C = 0xFF ∧ State.reset.read 0xFF7F = 0xFF := by decide

/-- B5, B6: IF and IE. -/
theorem test_interrupt_bits : (State.reset.write 0xFF0F 0xFF).read 0xFF0F = 0xFF ∧
    (State.reset.write 0xFF0F 0x00).read 0xFF0F = 0xE0 ∧ (State.reset.write 0xFFFF 0xFF).read 0xFFFF = 0xFF ∧
    (State.reset.write 0xFFFF 0xFF).irq.ie = 0x1F := by decide

/-- B9, B11, B12, B13: the VRAM lock in mode 2, in mode 0, with the LCD off, and switched off. -/
theorem test_vram_lock : (State.reset.write 0x8000 0x55).read 0x8000 = 0x00 ∧
    ((State.reset.ppuAdvance 252).write 0x8000 0x55).read 0x8000 = 0x55 ∧
    ((State.reset.write 0xFF40 0x11).write 0x8000 0x55).read 0x8000 = 0x55 ∧
    (State.write { State.reset with config := { Config.standard with enforceVramLock := false } } 0x8000 0x55).read 0x8000 =
      0x55 := by decide +kernel

/-- B10: OAM in mode 3. -/
theorem test_oam_lock : ((State.reset.ppuAdvance 80).write 0xFE00 0x55).read 0xFE00 = 0x00 := by decide +kernel

/-- B14: OAM DMA in mode 2, lock and all. -/
def dmaSource : State := { State.reset with mem := [(0xC001, 0x01), (0xC09F, 0x9F)] }

theorem test_dma : (dmaSource.write 0xFF46 0xC0).read 0xFE01 = 0x01 ∧ (dmaSource.write 0xFF46 0xC0).read 0xFE9F = 0x9F ∧
    (dmaSource.write 0xFF46 0xC0).read 0xFE02 = 0x00 ∧ (dmaSource.write 0xFF46 0xC0).read 0xFF46 = 0xC0 := by decide +kernel

/-! ### Cartridges (M, E5) -/

/-- A machine with a cartridge of the given controller, bank counts and image bytes. -/
def withCart (m : Mbc) (romBanks ramBanks : Nat) (cells : List Host.Cell) : State :=
  { State.reset with
    cart := some
      { rom := { len := romBanks * 0x4000, cells }, title := List.replicate 16 0, typeCode := 0, romBanks, ramBanks
        battery := false, mbc := m, extRam := [] } }

/-- Several bus writes. -/
def writes (s : State) (w : List (Word × Byte)) : State := w.foldl (fun s p => s.write p.1 p.2) s

def mbc1Rom : State := withCart (.mbc1 Mbc1.reset) 8 4 [(0x4000, 0x11), (0x14000, 0x55)]

/-- M1, M2, M3. -/
theorem test_mbc1_rom_banks : (writes mbc1Rom [(0x2000, 0x05)]).read 0x4000 = 0x55 ∧
    (writes mbc1Rom [(0x2000, 0x00)]).read 0x4000 = 0x11 ∧ (writes mbc1Rom [(0x2000, 0x20)]).read 0x4000 = 0x11 ∧
    (writes mbc1Rom [(0x2000, 0x0D)]).read 0x4000 = 0x55 := by decide

/-- M4, M5. -/
theorem test_mbc1_upper_bits :
    let s := withCart (.mbc1 Mbc1.reset) 64 0 [(0x0000, 0x01), (0x80000, 0x20), (0x84000, 0x21)]
    (writes s [(0x4000, 0x01)]).read 0x4000 = 0x21 ∧ (writes s [(0x4000, 0x01)]).read 0x0000 = 0x01 ∧
      (writes s [(0x4000, 0x01), (0x6000, 0x01)]).read 0x0000 = 0x20 := by decide

/-- M7 to M10. -/
theorem test_mbc1_ram : mbc1Rom.read 0xA000 = 0xFF ∧
    (writes mbc1Rom [(0x0000, 0x0A), (0xA000, 0x55)]).read 0xA000 = 0x55 ∧
    (writes mbc1Rom [(0x0000, 0x0A), (0xA000, 0x55), (0x0000, 0x1A)]).read 0xA000 = 0x55 ∧
    (writes mbc1Rom [(0x0000, 0x0A), (0xA000, 0x55), (0x0000, 0x00)]).read 0xA000 = 0xFF ∧
    (writes mbc1Rom [(0x0000, 0x0A), (0x4000, 0x02), (0x6000, 0x01), (0xA000, 0x77)]).cart.map Cart.extRam =
      some [(0x4000, 0x77)] := by decide

def mbc2Rom : State := withCart (.mbc2 Mbc2.reset) 8 0 [(0x4000, 0x11), (0xC000, 0x33)]

/-- M11 to M14. -/
theorem test_mbc2 : (writes mbc2Rom [(0x2100, 0x03)]).read 0x4000 = 0x33 ∧
    (writes mbc2Rom [(0x2100, 0x00)]).read 0x4000 = 0x11 ∧
    (writes mbc2Rom [(0x0000, 0x0A), (0xA000, 0xAB)]).read 0xA000 = 0xFB ∧
    (writes mbc2Rom [(0x0000, 0x0A), (0xA000, 0xAB)]).read 0xA200 = 0xFF ∧
    (writes mbc2Rom [(0x0100, 0x0A)]).read 0xA000 = 0xFF := by decide

def mbc3Rtc : State := writes (withCart (.mbc3 Mbc3.reset) 16 0 [(0x4000, 0x11), (0x14000, 0x55)]) [(0x0000, 0x0A), (0x4000, 0x08)]

/-- M15 to M20. -/
theorem test_mbc3 : (writes mbc3Rtc [(0x2000, 0x00)]).read 0x4000 = 0x11 ∧
    (writes mbc3Rtc [(0x2000, 0x85)]).read 0x4000 = 0x55 ∧ (writes mbc3Rtc [(0xA000, 0x25)]).read 0xA000 = 0x00 ∧
    (writes mbc3Rtc [(0xA000, 0x25), (0x6000, 0x00), (0x6000, 0x01)]).read 0xA000 = 0x25 ∧
    (writes mbc3Rtc [(0xA000, 0x25), (0x6000, 0x00), (0x6000, 0x01), (0xA000, 0x30), (0x6000, 0x01)]).read 0xA000 = 0x25 ∧
    (writes mbc3Rtc [(0xA000, 0xFF), (0x6000, 0x00), (0x6000, 0x01)]).read 0xA000 = 0x3F ∧
    (writes mbc3Rtc [(0x4000, 0x05)]).read 0xA000 = 0xFF := by decide

def mbc5Rom : State := withCart (.mbc5 Mbc5.reset) 512 0 [(0x0000, 0x10), (0x414000, 0x15)]

/-- M21, M22. -/
theorem test_mbc5 : (writes mbc5Rom [(0x2000, 0x00)]).read 0x4000 = 0x10 ∧
    (writes mbc5Rom [(0x2000, 0x05), (0x3000, 0x01)]).read 0x4000 = 0x15 := by decide

/-- M24: beyond the image. B7, B8: NoMBC. -/
theorem test_rom_edges :
    (writes { mbc1Rom with cart := mbc1Rom.cart.map fun k => { k with rom := { k.rom with len := 0x8000 } } }
      [(0x2000, 0x05)]).read 0x4000 = 0xFF ∧
    (writes (withCart .noMbc 2 0 [(0x4000, 0x11)]) [(0x2000, 0x01)]).read 0x4000 = 0x11 ∧
    (withCart .noMbc 2 0 []).read 0xA000 = 0xFF := by decide

/-- A 32 KiB image with a zero header but for the given bytes. -/
def zeroRom (cells : List Host.Cell) : RomImage := { len := 0x8000, cells }

/-- E5, M25, M26: what `loadCartridge` accepts. -/
theorem test_load_cartridge :
    (State.loadCartridge State.reset (zeroRom [(0x14D, 0xE7)]) none).1 = .none ∧
    (State.loadCartridge State.reset (zeroRom [(0x134, 0x01), (0x14D, 0xE7)]) none).1 = .invalidCartridge ∧
    (State.loadCartridge State.reset (zeroRom [(0x147, 0x04), (0x14D, 0xE3)]) none).1 = .invalidCartridge ∧
    (State.loadCartridge State.reset { len := 0x4000, cells := [(0x14D, 0xE7)] } none).1 = .invalidCartridge := by decide

/-! ### Timer (T) -/

def withTimer (t : Timer) : State := { State.reset with timer := t, irq := ⟨0, 0⟩ }

/-- T1: R445's example. -/
theorem test_timer_reload :
    let s := withTimer { Timer.reset with tac := 0b101, tima := 0xFE, tma := 0x20 }
    (s.timerAdvance 24).timer.tima = 0xFF ∧ (s.timerAdvance 24).timer.timaAcc = 8 ∧
      ((s.timerAdvance 24).timerAdvance 8).timer.tima = 0x20 ∧ ((s.timerAdvance 24).timerAdvance 8).irq.iflag = 0x04 := by
  decide

/-- T2, T3. -/
theorem test_div :
    let s := withTimer { Timer.reset with div := 0x10, divAcc := 250 }
    (s.timerAdvance 12).timer.div = 0x11 ∧ (s.timerAdvance 12).timer.divAcc = 6 ∧
      (State.reset.timerAdvance 255).timer.div = 0xAB ∧ (State.reset.timerAdvance 256).timer.div = 0xAC := by decide

/-- T4, T8: the writes. -/
theorem test_timer_writes :
    let s := withTimer { Timer.reset with div := 0x40, divAcc := 200, tac := 0b101, timaAcc := 10 }
    (s.write 0xFF04 0x77).timer = { s.timer with div := 0, divAcc := 0 } ∧ (s.write 0xFF07 0x06).timer.timaAcc = 0 ∧
      (s.write 0xFF07 0x06).read 0xFF07 = 0xFE := by decide

/-- T6, T7: two overflows in one advance; the timer switched off. -/
theorem test_timer_overflow :
    let s := withTimer { Timer.reset with tac := 0b111, tima := 0xFF, tma := 0xFE }
    let off := withTimer { Timer.reset with tac := 0b011, tima := 0x33 }
    (s.timerAdvance 512).timer.tima = 0xFF ∧ (s.timerAdvance 512).irq.iflag = 0x04 ∧
      (off.timerAdvance 5000).timer.tima = 0x33 ∧ (off.timerAdvance 5000).timer.div = 0xAB + 19 := by decide

/-! ### PPU (S) -/

/-- S1 to S3. -/
theorem test_modes : State.reset.read 0xFF41 = 0x86 ∧ (State.reset.ppuAdvance 80).read 0xFF41 = 0x87 ∧
    (State.reset.ppuAdvance 252).read 0xFF41 = 0x84 := by decide +kernel

/-- S4, S7: line 1, and the coincidence interrupt. -/
theorem test_line_one :
    let s := writes { State.reset with irq := ⟨0, 0⟩ } [(0xFF45, 0x01), (0xFF41, 0x40)]
    (State.reset.ppuAdvance 456).read 0xFF44 = 0x01 ∧ (State.reset.ppuAdvance 456).read 0xFF41 = 0x82 ∧ s.irq.iflag = 0 ∧
      (s.ppuAdvance 455).irq.iflag = 0 ∧ ((s.ppuAdvance 455).ppuAdvance 1).irq.iflag = 0x02 ∧
      ((s.ppuAdvance 455).ppuAdvance 1).read 0xFF41 = 0xC6 := by decide +kernel

/-- S6's second part: into line 144. -/
theorem test_vblank :
    let s := { State.reset with irq := ⟨0, 0⟩, ppu := { State.reset.ppu with line := 143, mode := .hblank, modeCycles := 200 } }
    (s.ppuAdvance 4).ppu.mode = .vblank ∧ (s.ppuAdvance 4).ppu.line = 144 ∧ (s.ppuAdvance 4).irq.iflag = 0x01 ∧
      (s.ppuAdvance 4).ppu.frameComplete = true := by decide +kernel

/-- S9, S10, S11, S12: the register writes. -/
theorem test_lcd_writes :
    (writes { State.reset with irq := ⟨0, 0⟩ } [(0xFF41, 0x40)]).irq.iflag = 0x02 ∧
      (State.reset.write 0xFF40 0x11).read 0xFF41 = 0x84 ∧
      (writes State.reset [(0xFF40, 0x11), (0xFF40, 0x91)]).read 0xFF41 = 0x86 ∧
      (State.write { State.reset with ppu := { State.reset.ppu with line := 50, mode := .drawing } } 0xFF44 0x05).read 0xFF44 =
        0x00 := by decide

/-! ### Joypad (J) -/

/-- J1, J2, J3. -/
theorem test_joypad_press :
    let s := State.write { withCart .noMbc 2 0 [] with irq := ⟨0, 0⟩ } 0xFF00 0x20
    State.reset.read 0xFF00 = 0xCF ∧ (s.setButton .right true).irq.iflag = 0x10 ∧
      (s.setButton .right true).read 0xFF00 = 0xEE ∧ (s.setButton .a true).irq.iflag = 0x00 ∧
      ((s.setButton .right true).setButton .a true).read 0xFF00 = 0xEE := by decide

/-- J4 to J8. -/
theorem test_joypad_columns :
    let s := (({ withCart .noMbc 2 0 [] with irq := ⟨0, 0⟩ } : State).setButton .right true).setButton .a true
    let t := { s with irq := ⟨0, 0⟩ }
    (t.write 0xFF00 0x10).read 0xFF00 = 0xDE ∧ ((t.write 0xFF00 0x10).setButton .a true).irq.iflag = 0 ∧
      (t.write 0xFF00 0x30).read 0xFF00 = 0xFF ∧ (t.write 0xFF00 0x00).read 0xFF00 = 0xCE ∧
      (State.reset.write 0xFF00 0xFF).read 0xFF00 = 0xFF := by decide

/-- Before a cartridge is loaded `setButton` changes nothing (I18, log entry 26). -/
theorem test_no_cartridge_button : State.reset.setButton .a true = State.reset := by rfl

/-- R532: a payload of another format version is refused and changes nothing; the machine's own is taken. -/
theorem test_load_state (s : State) : s.loadState { s.saveState with version := Config.stateVersion + 1 } =
    (.stateIncompatible, s) := by
  simp [State.loadState]

/-! ### APU (A) -/

def channel2 : State := writes State.reset [(0xFF17, 0xF0), (0xFF16, 0x3F), (0xFF19, 0xC0)]

/-- A2, A3, A4. -/
theorem test_apu_trigger : channel2.read 0xFF26 = 0xF2 ∧ (channel2.apuAdvance 8192).read 0xFF26 = 0xF0 ∧
    (channel2.apuAdvance 8192).apu.fsStep = 1 ∧
    (writes State.reset [(0xFF17, 0x00), (0xFF19, 0x80)]).read 0xFF26 = 0xF0 := by decide +kernel

/-- A5 to A8. -/
theorem test_apu_power :
    let s := State.reset.write 0xFF26 0x00
    s.read 0xFF26 = 0x70 ∧ s.read 0xFF24 = 0x00 ∧ (s.write 0xFF24 0x77).read 0xFF24 = 0x00 ∧
      (s.write 0xFF30 0x12).read 0xFF30 = 0x12 ∧ (s.write 0xFF26 0x80).read 0xFF26 = 0xF0 := by decide

/-! ### Witnesses: concrete states and operands that meet a statement's hypotheses, clause by clause -/

/-- A machine with INC B placed at PC. -/
def ready : State := State.reset.withFetchWord 8 0x04

theorem witness_DecodeOfEncode : WellFormed (.callA16 0xFFFF) ∧ WellFormed .set7A ∧ WellFormed .illegalFD := by decide

theorem witness_EncodeOfDecode : decode [0xCD, 0x00, 0xFF, 0x01] = .ok (.callA16 0xFF00, [0x01]) := by rfl

theorem witness_IllegalOpcodesExactly :
    (0xD3, Instr.illegalD3) ∈ Forms.illegal ∧ ((0xFD : Byte), decodeBytes 0xFD 0xFF 0xFF) ∈ Forms.illegal := by decide

theorem witness_StepRunsDecoded : ready.cart ≠ none ∧ Claims.Runs ready ∧
    decode [ready.read ready.regs.pc, ready.read ready.operandAddr, ready.read (ready.operandAddr + 1)] =
      .ok (.incB, [0x00, 0x00]) ∧ ∃ t, exec .incB ready = .next t := by
  refine ⟨by decide, ?_, by decide, _, rfl⟩
  unfold Claims.Runs
  decide

/-- A machine with CB CB at PC, and the same under the HALT bug. -/
def prefixed : State := State.reset.withFetchWord 16 0xCBCB

theorem witness_CbPrefixSelects : prefixed.read prefixed.regs.pc = 0xCB ∧
    State.read { prefixed with cpu := { prefixed.cpu with haltBug := true } } prefixed.regs.pc = 0xCB := by decide

theorem witness_LoadsToRegister : (0x40, .ldBB, .b, .b) ∈ Forms.ldReg ∧ (0x7F, .ldAA, .a, .a) ∈ Forms.ldReg ∧
    (0x66, .ldHAtHl, .h) ∈ Forms.ldFromHl := by decide

theorem witness_LoadsToRegister_immediate : (0x06, .ldBD8, .b) ∈ Forms.ldImm ∧ (0x3E, .ldAD8, .a) ∈ Forms.ldImm := by
  simp [Forms.ldImm]

theorem witness_StoresThroughHl : (0x74, .ldAtHlH, .h) ∈ Forms.stToHl ∧ (0x77, .ldAtHlA, .a) ∈ Forms.stToHl := by decide

theorem witness_WordLoads : (0x01, .ldBcD16, .bc) ∈ Forms.ldWord ∧ (0x31, .ldSpD16, .sp) ∈ Forms.ldWord := by
  simp [Forms.ldWord]

theorem witness_ArithmeticOnA : (0x80, .addAB, .add, .b) ∈ Forms.arithReg ∧ (0x9F, .sbcAA, .sbc, .a) ∈ Forms.arithReg ∧
    (0x86, .addAAtHl, .add) ∈ Forms.arithMem ∧ (0x9E, .sbcAAtHl, .sbc) ∈ Forms.arithMem := by decide

theorem witness_ArithmeticOnA_immediate : (0xC6, .addAD8, .add) ∈ Forms.arithImm ∧ (0xDE, .sbcAD8, .sbc) ∈ Forms.arithImm := by
  simp [Forms.arithImm]

theorem witness_LogicOnA : (0xA0, .andB, .and, .b) ∈ Forms.logicReg ∧ (0xBF, .cpA, .cp, .a) ∈ Forms.logicReg ∧
    (0xA6, .andAtHl, .and) ∈ Forms.logicMem ∧ (0xBE, .cpAtHl, .cp) ∈ Forms.logicMem := by decide

theorem witness_LogicOnA_immediate : (0xE6, .andD8, .and) ∈ Forms.logicImm ∧ (0xFE, .cpD8, .cp) ∈ Forms.logicImm := by
  simp [Forms.logicImm]

theorem witness_IncrementDecrement : (0x04, .incB, .b) ∈ Forms.incReg ∧ (0x3C, .incA, .a) ∈ Forms.incReg ∧
    (0x05, .decB, .b) ∈ Forms.decReg ∧ (0x3D, .decA, .a) ∈ Forms.decReg := by decide

theorem witness_WordArithmetic : (0x29, .addHlHl, .hl) ∈ Forms.addHl ∧ (0x39, .addHlSp, .sp) ∈ Forms.addHl ∧
    (0x33, .incSp, .sp) ∈ Forms.incPair ∧ (0x0B, .decBc, .bc) ∈ Forms.decPair := by decide

theorem witness_AccumulatorRotates : (0x07, .rlca, .rlc) ∈ Forms.rotA ∧ (0x1F, .rra, .rr) ∈ Forms.rotA := by decide

theorem witness_RotatesOfRegister : (0x00, .rlcB, .rlc, .b) ∈ Forms.rotReg ∧ (0x3F, .srlA, .srl, .a) ∈ Forms.rotReg := by decide

theorem witness_RotatesOfMemory : (0x06, .rlcAtHl, .rlc) ∈ Forms.rotMem ∧ (0x3E, .srlAtHl, .srl) ∈ Forms.rotMem := by decide

theorem witness_BitInstructions : (0x40, .bit0B, 0, .b) ∈ Forms.bitReg ∧ (0x7F, .bit7A, 7, .a) ∈ Forms.bitReg ∧
    (0x46, .bit0AtHl, 0) ∈ Forms.bitMem ∧ (0x80, .res0B, 0, .b) ∈ Forms.resReg ∧ (0xBF, .res7A, 7, .a) ∈ Forms.resReg ∧
    (0xBE, .res7AtHl, 7) ∈ Forms.resMem ∧ (0xC0, .set0B, 0, .b) ∈ Forms.setReg ∧ (0xFF, .set7A, 7, .a) ∈ Forms.setReg ∧
    (0xFE, .set7AtHl, 7) ∈ Forms.setMem := by
  refine ⟨?_, ?_, ?_, ?_, ?_, ?_, ?_, ?_, ?_⟩ <;> decide

theorem witness_Jumps : (0xC2, .jpNzA16, .nz) ∈ Forms.jpCond ∧ (0xDA, .jpCA16, .c) ∈ Forms.jpCond ∧
    (0x20, .jrNzE8, .nz) ∈ Forms.jrCond ∧ (0x38, .jrCE8, .c) ∈ Forms.jrCond := by simp [Forms.jpCond, Forms.jrCond]

theorem witness_Jumps_flags : (∃ t, exec .ret ready = .next t) ∧ (∃ t, exec .popBc ready = .next t) ∧
    ((0xC1, .popBc, .bc) ∈ Forms.pops ∧ StackReg.bc ≠ .af) ∧ Cond.holds .nz State.reset.regs.f = false :=
  ⟨⟨_, rfl⟩, ⟨_, rfl⟩, by decide, by decide⟩

theorem witness_Calls : (0xC4, .callNzA16, .nz) ∈ Forms.callCond ∧ (0xDC, .callCA16, .c) ∈ Forms.callCond ∧
    (0xC7, .rst00, 0x0000) ∈ Forms.rst ∧ (0xFF, .rst38, 0x0038) ∈ Forms.rst := by simp [Forms.callCond, Forms.rst]

theorem witness_Returns : (0xC0, .retNz, .nz) ∈ Forms.retCond ∧ (0xD8, .retC, .c) ∈ Forms.retCond := by decide

theorem witness_PushPop : (0xC5, .pushBc, .bc) ∈ Forms.pushes ∧ (0xF5, .pushAf, .af) ∈ Forms.pushes ∧
    (0xC1, .popBc, .bc) ∈ Forms.pops ∧ (0xF1, .popAf, .af) ∈ Forms.pops := by decide

/-- One machine with the instruction of a word placed, IME 0 and the given EI delay. -/
def delayed (w : Nat) (d : Fin 3) : State :=
  let s := State.reset.withFetchWord 8 w
  { s with cpu := { s.cpu with eiDelay := d } }

theorem witness_EiTakesEffectLate_start :
    Claims.Runs (delayed 0xFB 0) ∧ (delayed 0xFB 0).fetchInstr = .ei ∧ (delayed 0xFB 0).cpu.ime = false ∧
      (delayed 0xFB 0).cpu.eiDelay = 0 := by
  unfold Claims.Runs
  decide

theorem witness_EiTakesEffectLate_end :
    Claims.Runs (delayed 0xD9 1) ∧ (delayed 0xD9 1).cpu.ime = false ∧ (delayed 0xD9 1).cpu.eiDelay = 1 ∧
      (delayed 0xD9 1).fetchInstr ≠ .di ∧ ∀ op, (op, (delayed 0xD9 1).fetchInstr) ∉ Forms.illegal := by
  have e : (delayed 0xD9 1).fetchInstr = .reti := by decide
  refine ⟨by unfold Claims.Runs; decide, by decide, by decide, by decide, fun op => ?_⟩
  rw [e]
  simp [Forms.illegal]

theorem witness_EiTakesEffectLate_di : Claims.Runs (delayed 0xF3 1) ∧ (delayed 0xF3 1).fetchInstr = .di := by
  unfold Claims.Runs
  decide

theorem witness_IllegalOpcodeFaults : (0xD3, .illegalD3) ∈ Forms.illegal ∧ Claims.Runs (delayed 0xD3 0) ∧
    (delayed 0xD3 0).fetchInstr = .illegalD3 ∧
    ({ ready with cpu := { ready.cpu with fault := some ⟨0xFD, 0xC000⟩ } } : State).cpu.fault ≠ none := by
  unfold Claims.Runs
  decide

theorem witness_NoOtherFault : ∃ t, exec .illegalFD ready = .next t ∧ t.cpu.fault ≠ ready.cpu.fault :=
  ⟨_, rfl, by decide⟩

theorem witness_StoreReach : storeReaches 0x7FFF 0x8000 = false ∧ storeReaches 0xFFFF 0xFFFE = false ∧
    storeReaches 0xE000 0xC001 = false ∧ storeReaches 0xFF46 0xFEA0 = false ∧ storeReaches 0xFF50 0xFF50 = false ∧
    storeReaches 0xFF26 0xFF27 = false ∧ storeReaches 0xFF40 0xFF42 = false := by decide

theorem witness_InstructionMemoryFrame : (∃ t, exec .pushAf ready = .next t) ∧
    (∀ a ∈ storesTo .pushAf ready, storeReaches a 0xFFFE = false) ∧ (∃ t, exec .incB ready = .next t) ∧
    storesTo .incB ready = [] := by
  obtain ⟨t, h, _⟩ := exec_ends .pushAf ready (by decide)
  obtain ⟨u, g, _⟩ := exec_ends .incB ready (by decide)
  have targets : storesTo .pushAf ready = [0xFFFD, 0xFFFC] := rfl
  refine ⟨⟨t, h⟩, fun a ha => ?_, ⟨u, g⟩, rfl⟩
  rw [targets] at ha
  rcases List.mem_pair.mp ha with rfl | rfl <;> decide

/-- IME set, the joypad alone requested and enabled. -/
def requesting : State := { ready with cpu := { ready.cpu with ime := true }, irq := ⟨0x10, 0x10⟩ }

theorem witness_InterruptDispatch : requesting.cpu.fault = none ∧ requesting.cpu.ime = true ∧
    requesting.irq.first = some .joypad := by decide

/-- Halted, with IME = 0 and the given bits. -/
def halted (q : Irq) : State := { ready with cpu := { ready.cpu with halted := true, ime := false }, irq := q }

theorem witness_HaltedSteps : (halted ⟨0x1F, 0x00⟩).cpu.fault = none ∧ (halted ⟨0x1F, 0x00⟩).cpu.halted = true ∧
    (halted ⟨0x1F, 0x00⟩).irq.ie &&& (halted ⟨0x1F, 0x00⟩).irq.iflag = 0 ∧ (halted ⟨0x1F, 0x00⟩).cart ≠ none ∧
    (halted ⟨0x10, 0x10⟩).cpu.ime = false ∧ (halted ⟨0x10, 0x10⟩).irq.ie &&& (halted ⟨0x10, 0x10⟩).irq.iflag ≠ 0 := by decide

theorem witness_StepCycles : ∃ t, cpuStep ready = .next t ∧ t.cpu.cycles = 4 := ⟨_, rfl, by decide⟩

theorem witness_HostReset : regionOf 0x8000 = .vram ∧ regionOf 0x9FFF = .vram ∧ regionOf 0xC000 = .wram ∧
    regionOf 0xDFFF = .wram ∧ regionOf 0xFE00 = .oam ∧ regionOf 0xFE9F = .oam ∧ regionOf 0xFF80 = .hram ∧
    regionOf 0xFFFE = .hram ∧ ready.cart ≠ none ∧
    (ready.cart.map fun k => ({ k with battery := true } : Cart).battery) = some true := by decide

/-- The lock on in modes 2 and 3, and off in mode 0 and with the LCD off. -/
theorem witness_VramLock : regionOf 0x9FFF = .vram ∧ regionOf 0xFE00 = .oam ∧
    (State.reset.config.enforceVramLock = true ∧ State.reset.ppu.lcdc.getLsbD 7 = true ∧ State.reset.ppu.mode = .oamScan) ∧
    (({ State.reset with ppu := { State.reset.ppu with mode := .drawing } } : State).ppu.mode = .drawing ∧
      ({ State.reset with ppu := { State.reset.ppu with mode := .drawing } } : State).ppu.lcdc.getLsbD 7 = true) ∧
    (State.reset.write 0xFF40 0x11).ppu.lcdc.getLsbD 7 = false := by decide

/-- The boundaries of the plain regions of `PlainMemory`, with `Word` literals. -/
theorem witness_PlainMemory : (0xC000 ≤ (0xDFFF : Word).toNat ∧ (0xDFFF : Word).toNat < 0xE000) ∧
    (0xFF80 ≤ (0xFFFE : Word).toNat ∧ (0xFFFE : Word).toNat < 0xFFFF) ∧ 0xE000 ≤ (0xFDFF : Word).toNat ∧
    (0xFDFF : Word).toNat < 0xFE00 ∧
    (0xDE00 ≤ (0xDE00 : Word).toNat ∧ (0xDE00 : Word).toNat < 0xE000 ∧ (0xFE00 : Word) ≠ 0xDE00) ∧
    (0xDE00 ≤ (0xDFFF : Word).toNat ∧ (0xDFFF : Word).toNat < 0xE000 ∧ (0xDFFE : Word) ≠ 0xDFFF) := by decide

theorem witness_OamDma : 159 < 160 ∧ ¬ (0xFE00 ≤ 0xFEA0 ∧ 0xFEA0 < 0xFEA0) ∧ ¬ (0xFE00 ≤ 0xFDFF ∧ 0xFDFF < 0xFEA0) := by decide

theorem witness_SilentAddresses : Claims.Silent 0xFEA0 ∧ Claims.Silent 0xFEFF ∧ Claims.Silent 0xFF03 ∧ Claims.Silent 0xFF08 ∧
    Claims.Silent 0xFF0E ∧ Claims.Silent 0xFF15 ∧ Claims.Silent 0xFF1F ∧ Claims.Silent 0xFF27 ∧ Claims.Silent 0xFF2F ∧
    Claims.Silent 0xFF4C ∧ Claims.Silent 0xFF50 ∧ Claims.Silent 0xFF7F := by
  unfold Claims.Silent
  refine ⟨?_, ?_, ?_, ?_, ?_, ?_, ?_, ?_, ?_, ?_, ?_, ?_⟩ <;> decide

/-- The boundaries of the registers' ranges and of the two ROM windows, with a cartridge of each controller. -/
theorem witness_Mbc1Banking : ∃ k, mbc1Rom.cart = some k ∧ k.mbc = .mbc1 Mbc1.reset ∧ (0x1FFF : Word).toNat < 0x8000 ∧
    (0x2000 : Word).toNat < 0x8000 ∧ (0x3FFF : Word).toNat < 0x8000 ∧ (0x4000 : Word).toNat < 0x8000 ∧
    (0x5FFF : Word).toNat < 0x8000 ∧ (0x7FFF : Word).toNat < 0x8000 := ⟨_, rfl, rfl, by decide⟩

theorem witness_Mbc1Banking_others : (∃ k, mbc2Rom.cart = some k ∧ k.mbc = .mbc2 Mbc2.reset) ∧
    (∃ k, (withCart (.mbc3 Mbc3.reset) 16 4 []).cart = some k ∧ k.mbc = .mbc3 Mbc3.reset) ∧
    (∃ k, (withCart (.mbc5 Mbc5.reset) 512 16 []).cart = some k ∧ k.mbc = .mbc5 Mbc5.reset) ∧
    ∃ k, (withCart .noMbc 2 0 []).cart = some k ∧ k.mbc = .noMbc :=
  ⟨⟨_, rfl, rfl⟩, ⟨_, rfl, rfl⟩, ⟨_, rfl, rfl⟩, ⟨_, rfl, rfl⟩⟩

theorem witness_DisabledRam_mbc1 : ∃ k r, mbc1Rom.cart = some k ∧ k.mbc = .mbc1 r ∧ r.ramEnable = false ∧
    0xA000 ≤ (0xA000 : Word).toNat ∧ (0xBFFF : Word).toNat < 0xC000 := ⟨_, _, rfl, rfl, rfl, by decide⟩

theorem witness_DisabledRam_mbc2 : ∃ k r, (mbc2Rom.write 0x0000 0x0A).cart = some k ∧ k.mbc = .mbc2 r ∧
    r.ramEnable = true ∧ 0xA200 ≤ (0xA200 : Word).toNat ∧ (0xA200 : Word).toNat < 0xC000 := ⟨_, _, rfl, rfl, by decide, by decide⟩

theorem witness_DisabledRam_others :
    (∃ k r, (withCart (.mbc3 Mbc3.reset) 16 4 []).cart = some k ∧ k.mbc = .mbc3 r ∧ r.ramEnable = false) ∧
    (∃ k r, ((withCart (.mbc5 Mbc5.reset) 2 0 []).write 0x0000 0x0A).cart = some k ∧ k.mbc = .mbc5 r ∧ r.ramEnable = true ∧
      k.ramBanks = 0) ∧
    ∃ k, (withCart .noMbc 2 0 []).cart = some k ∧ k.mbc = .noMbc :=
  ⟨⟨_, _, rfl, rfl, rfl⟩, ⟨_, _, rfl, rfl, by decide, rfl⟩, ⟨_, rfl, rfl⟩⟩

/-- A cartridge of the given controller with its RAM or RTC enabled. -/
def enabled3 (select : Byte) : Mbc := .mbc3 { Mbc3.reset with ramEnable := true, select }

theorem witness_DisabledRam_enabled : (∃ k r, (withCart (enabled3 4) 16 4 []).cart = some k ∧ k.mbc = .mbc3 r ∧
      r.ramEnable = true ∧ 4 ≤ r.select.toNat ∧ r.select.toNat < 8) ∧
    (∃ k r, (withCart (enabled3 7) 16 4 []).cart = some k ∧ k.mbc = .mbc3 r ∧ r.select.toNat = 7) ∧
    (∃ k r, (withCart (enabled3 0x0D) 16 4 []).cart = some k ∧ k.mbc = .mbc3 r ∧ 0x0C < r.select.toNat) ∧
    (∃ k r, (withCart (enabled3 3) 16 0 []).cart = some k ∧ k.mbc = .mbc3 r ∧ r.select.toNat < 4 ∧ k.ramBanks = 0) ∧
    ∃ k r, (withCart (.mbc1 { Mbc1.reset with ramEnable := true }) 8 0 []).cart = some k ∧ k.mbc = .mbc1 r ∧
      r.ramEnable = true ∧ k.ramBanks = 0 :=
  ⟨⟨_, _, rfl, rfl, rfl, by decide⟩, ⟨_, _, rfl, rfl, rfl⟩, ⟨_, _, rfl, rfl, by decide⟩, ⟨_, _, rfl, rfl, by decide, rfl⟩,
    ⟨_, _, rfl, rfl, rfl, rfl⟩⟩

theorem witness_DisabledRam_banked :
    (Claims.ramBank (.mbc1 { Mbc1.reset with ramEnable := true, mode := true, secondary := 3 }) = some 3 ∧ 0 < 4) ∧
    Claims.ramBank (.mbc1 { Mbc1.reset with ramEnable := true, secondary := 3 }) = some 0 ∧
    Claims.ramBank (enabled3 3) = some 3 ∧ Claims.ramBank (.mbc5 { Mbc5.reset with ramEnable := true, ramBank := 15 }) = some 15 :=
  by decide

theorem witness_DisabledRam_nibbles_and_rtc :
    (∃ k r, (withCart (.mbc2 { Mbc2.reset with ramEnable := true }) 8 0 []).cart = some k ∧ k.mbc = .mbc2 r ∧
      r.ramEnable = true ∧ (0xA1FF : Word).toNat < 0xA200) ∧
    (∃ k r, (withCart (enabled3 8) 16 4 []).cart = some k ∧ k.mbc = .mbc3 r ∧ r.ramEnable = true ∧ 8 ≤ r.select.toNat) ∧
    ∃ k r, (withCart (enabled3 12) 16 4 []).cart = some k ∧ k.mbc = .mbc3 r ∧ r.ramEnable = true ∧ r.select.toNat ≤ 12 :=
  ⟨⟨_, _, rfl, rfl, rfl, by decide⟩, ⟨_, _, rfl, rfl, rfl, by decide⟩, ⟨_, _, rfl, rfl, rfl, by decide⟩⟩

/-- R445: `advance(24)` with P = 16 from TIMA = 0xFE, then an overflow, and one increment past a second overflow. -/
theorem witness_TimerCounts : Claims.timaAfter 0xFE 0x20 1 = (0xFF, false) ∧ Claims.timaAfter 0xFF 0x20 1 = (0x20, true) ∧
    Claims.timaAfter 0xFF 0xFF 3 = (0xFF, true) ∧ Claims.timaAfter 0xFE 0xFE 5 = (0xFF, true) := by decide

theorem witness_JoypadEncoder : State.reset.cart = none ∧ ready.cart ≠ none := by decide

theorem witness_InterruptRegisters : 0 < 5 ∧ 4 < 5 := by decide

theorem witness_LcdRegisters : State.reset.ppu.lcdc.getLsbD 7 = true ∧ (0x11 : Byte).getLsbD 7 = false ∧
    (State.reset.write 0xFF40 0x11).ppu.lcdc.getLsbD 7 = false ∧ (0x91 : Byte).getLsbD 7 = true ∧
    State.reset.ppu.modeCycles < State.reset.ppu.mode.duration ∧
    State.reset.ppu.modeCycles + 79 < State.reset.ppu.mode.duration ∧
    State.reset.ppu.modeCycles + 80 = State.reset.ppu.mode.duration := by decide

/-- The PPU after reset meets its invariant. -/
theorem reset_ppu_ok : State.reset.ppu.Ok where
  line := by decide
  vblank := by decide
  elapsed := by decide
  sprites := by decide
  bgIndex := by simp [State.reset, Ppu.reset]
  work := by simp [State.reset, Ppu.reset, FrameShape, blankFrame]
  output := by simp [State.reset, Ppu.reset, FrameShape, blankFrame]
  off := by decide
  stat := by decide

theorem witness_FramePeriod : State.reset.ppu.Ok ∧ State.reset.ppu.lcdOn = true := ⟨reset_ppu_ok, by decide⟩

theorem witness_DeviceRequests : Claims.requested State.reset .vblank = true := by decide

theorem witness_ApuPower : State.reset.apu.power = true ∧ (0x00 : Byte).getLsbD 7 = false ∧
    (State.reset.write 0xFF26 0x00).apu.power = false ∧ (0x80 : Byte).getLsbD 7 = true ∧
    0xFF10 ≤ (0xFF10 : Word).toNat ∧ (0xFF25 : Word).toNat ≤ 0xFF25 ∧ (0xFF10, .nr10, 0x80) ∈ Claims.soundRegs ∧
    (0xFF25, .nr51, 0x00) ∈ Claims.soundRegs ∧ (0x7F : Byte).toNat < 128 ∧ 128 ≤ (0x80 : Byte).toNat ∧
    State.reset.apu.fsAcc < 8192 ∧ State.reset.apu.fsAcc + 16383 < 16384 := by decide

/-- A machine about to store A in work RAM. -/
def storing : State := State.reset.withFetchWord 24 0xC000EA

theorem witness_StepKeepsMemory : storing.MemOk ∧ ∃ t, step storing = .next t ∧ t.mem = [(0xC000, 0x01)] :=
  ⟨by decide, _, rfl, by decide⟩

theorem storing_cart_ok : storing.CartOk := by
  intro k h
  cases h
  exact ⟨by decide, by decide, fun cell h => absurd (show cell ∈ [] from h) (List.not_mem_nil), trivial⟩

theorem witness_StepKeepsCartridge : storing.CartOk ∧ ∃ t, step storing = .next t := ⟨storing_cart_ok, _, rfl⟩

theorem witness_StepKeepsCpu : storing.cpu.Ok ∧ storing.cpu.cycles = storing.frameTotal + storing.frameAcc ∧
    ∃ t, step storing = .next t := ⟨⟨by decide, by decide, by decide⟩, by decide, _, rfl⟩

theorem witness_StepKeepsPpu : storing.timer.Ok ∧ storing.ppu.Ok ∧ ∃ t, step storing = .next t :=
  ⟨by decide, reset_ppu_ok, _, rfl⟩

theorem witness_StepKeepsApu : storing.apu.Ok storing.config.bufferCapacity ∧ ∃ t, step storing = .next t :=
  ⟨⟨by decide, by decide, by decide, by decide, by decide, by decide, by decide, fun h => absurd h (by decide)⟩, _, rfl⟩

theorem witness_FrameAccounting : storing.cart ≠ none ∧ storing.cpu.fault = none ∧
    storing.cpu.cycles = storing.frameTotal + storing.frameAcc ∧ storing.frameAcc < 70224 := by decide

end Sys2Proof.Tests
end

section
/-! PROOFS. What one step can do, said once: every instruction ends in a next state, the cases of the CPU step, and the
properties a step keeps. -/

namespace Sys2Proof.Machine

/-! ### The control instructions -/

/-- What an instruction can do to the CPU's control state (R38, R341, R343, R344, R320, R350): from `c` to `d`. -/
inductive Cpu.ControlStep (c d : Cpu) : Prop where
  | keeps (h : d.control = c.control)
  | halts (h : d.control = { c with halted := true }.control)
  | disables (h : d.control = { c with ime := false, eiDelay := 0 }.control)
  | delays (off : c.ime = false) (idle : c.eiDelay = 0) (h : d.control = { c with eiDelay := 2 }.control)
  | returns (h : d.control = { c with ime := true, eiDelay := 0 }.control)
  | faults (f : IllegalOpcode) (h : d.control = { c with fault := some f }.control)

/-- The control instructions are HALT, DI, EI, RETI and those that raise IllegalOpcode. -/
theorem Instr.isControl_cases {i : Sys2Proof.Instr} (h : Instr.isControl i = true) :
    i = .halt ∨ i = .di ∨ i = .ei ∨ i = .reti ∨ ∃ op, ∀ s, exec i s = .next (s.raiseIllegal op) := by
  unfold Instr.isControl at h
  split at h
  next => exact .inl rfl
  next => exact .inr (.inl rfl)
  next => exact .inr (.inr (.inl rfl))
  next => exact .inr (.inr (.inr (.inl rfl)))
  case h_16 => cases h
  all_goals exact .inr (.inr (.inr (.inr ⟨_, fun _ => rfl⟩)))

/-- `t` is the next state of an instruction begun in `s`. -/
structure InstrEnds (s t : State) : Prop where
  effect  : Effect s t
  control : s.cpu.ControlStep t.cpu
  cycles  : s.cpu.cycles ≤ t.cpu.cycles

theorem halt_ends (s : State) : ∃ t, halt s = .next t ∧ InstrEnds s t := by
  unfold halt
  dsimp only
  split
  · exact ⟨_, rfl, .cpu .refl _ _, .keeps rfl, Nat.le_add_right ..⟩
  · exact ⟨_, rfl, .cpu .refl _ _, .halts rfl, Nat.le_add_right ..⟩

theorem disableInterrupts_ends (s : State) : ∃ t, disableInterrupts s = .next t ∧ InstrEnds s t :=
  ⟨_, rfl, .cpu .refl _ _, .disables rfl, Nat.le_add_right ..⟩

theorem enableInterrupts_ends (s : State) : ∃ t, enableInterrupts s = .next t ∧ InstrEnds s t := by
  unfold enableInterrupts
  dsimp only
  split
  next h => exact ⟨_, rfl, .cpu .refl _ _, .delays h.1 h.2 rfl, Nat.le_add_right ..⟩
  next => exact ⟨_, rfl, .cpu .refl _ _, .keeps rfl, Nat.le_add_right ..⟩

theorem execReti_ends (s : State) : ∃ t, execReti s = .next t ∧ InstrEnds s t :=
  ⟨_, rfl, .cpu .refl _ _, .returns rfl, Nat.le_add_right ..⟩

theorem State.raiseIllegal_ends (s : State) (op : Byte) : InstrEnds s (s.raiseIllegal op) :=
  ⟨.cpu .refl s.regs _, .faults _ rfl, Nat.le_refl _⟩

/-- Every instruction ends in a next state. -/
theorem exec_next (i : Sys2Proof.Instr) (s : State) : ∃ t, exec i s = .next t ∧ InstrEnds s t := by
  cases hc : Instr.isControl i with
  | false =>
    obtain ⟨t, ht, effect, control, n, -, -, cycles⟩ := exec_ends i s hc
    exact ⟨t, ht, effect, .keeps control, by omega⟩
  | true =>
    obtain rfl | rfl | rfl | rfl | ⟨op, h⟩ := Instr.isControl_cases hc
    · exact halt_ends s
    · exact disableInterrupts_ends s
    · exact enableInterrupts_ends s
    · exact execReti_ends s
    · exact ⟨_, h s, s.raiseIllegal_ends op⟩

/-- A step that executes an instruction: the instruction, then the EI delay's count (R400). -/
theorem runInstr_next (s : State) : ∃ t, runInstr s = .next t.afterInstr ∧ InstrEnds s t := by
  obtain ⟨t, ht, ends⟩ := exec_next s.fetchInstr s
  exact ⟨t, by simp only [runInstr, ht], ends⟩

/-- The end of a step changes at most the CPU's control state. -/
theorem State.afterInstr_eq (s : State) : ∃ c, s.afterInstr = { s with cpu := c } ∧ c.cycles = s.cpu.cycles := by
  unfold State.afterInstr State.countEiDelay
  split
  · exact ⟨_, rfl, rfl⟩
  · split <;> exact ⟨_, rfl, rfl⟩

/-! ### The CPU step -/

/-- R400: the cases of the CPU step. -/
inductive CpuStep (s : State) : State → Prop where
  | faulted (fault : s.cpu.fault.isSome = true) : CpuStep s s
  | interrupt (k : IrqSource) (fault : s.cpu.fault = none) (ime : s.cpu.ime = true) (first : s.irq.first = some k) :
      CpuStep s (s.takeInterrupt k)
  | idle (fault : s.cpu.fault = none) (halted : s.cpu.halted = true) (pending : s.irq.pending = 0) : CpuStep s (s.tick 4)
  | wakes {t : State} (fault : s.cpu.fault = none) (halted : s.cpu.halted = true) (pending : s.irq.pending ≠ 0)
      (ends : InstrEnds s.wake t) : CpuStep s t.afterInstr
  | runs {t : State} (fault : s.cpu.fault = none) (halted : s.cpu.halted = false) (ends : InstrEnds s t) :
      CpuStep s t.afterInstr

/-- Every CPU step ends in a next state, by one of the cases of R400. -/
theorem cpuStep_next (s : State) : ∃ t, cpuStep s = .next t ∧ CpuStep s t := by
  unfold cpuStep
  split
  next fault => exact ⟨s, rfl, .faulted fault⟩
  next fault =>
    have fault : s.cpu.fault = none := by simpa using fault
    split
    next k hk =>
      have taken : s.cpu.ime = true ∧ s.irq.first = some k := by simpa using hk
      exact ⟨_, rfl, .interrupt k fault taken.1 taken.2⟩
    next =>
      split
      next halted =>
        split
        next pending => exact ⟨_, rfl, .idle fault halted pending⟩
        next pending =>
          obtain ⟨t, ht, ends⟩ := runInstr_next s.wake
          exact ⟨_, ht, .wakes fault halted pending ends⟩
      next halted =>
        obtain ⟨t, ht, ends⟩ := runInstr_next s
        exact ⟨_, ht, .runs fault (by simpa using halted) ends⟩

theorem State.takeInterrupt_effect (s : State) (k : IrqSource) :
    Effect { s with irq := s.irq.acknowledge k } (s.takeInterrupt k) :=
  (((Effect.refl.cpu s.regs _).push16 _).setPc _).cpu _ _

/-- A property kept by CPU changes, by bus writes and by a new IE and IF is kept by the CPU step. -/
theorem CpuStep.keeps {P : State → Prop} {s t : State} (h : CpuStep s t)
    (cpu : ∀ (u : State) (r : Regs) (c : Cpu), P u → P { u with regs := r, cpu := c })
    (write : ∀ (u : State) (a : Word) (v : Byte), P u → P (u.write a v))
    (irq : ∀ (u : State) (q : Irq), P u → P { u with irq := q }) (hs : P s) : P t := by
  have after (u : State) (hu : P u) : P u.afterInstr := by
    obtain ⟨c, e, -⟩ := u.afterInstr_eq
    exact e ▸ cpu u u.regs c hu
  cases h with
  | faulted => exact hs
  | interrupt k => exact (s.takeInterrupt_effect k).keeps cpu write (irq s _ hs)
  | idle => exact cpu s s.regs _ hs
  | wakes _ _ _ ends => exact after _ (ends.effect.keeps cpu write (cpu s s.regs _ hs))
  | runs _ _ ends => exact after _ (ends.effect.keeps cpu write hs)

/-! ### The machine's step -/

/-- The machine's step: nothing without a cartridge, else a CPU step and the devices' advance (R523, R531). -/
theorem step_cases {s t : State} (h : step s = .next t) :
    (s.cart = none ∧ t = s) ∨
      ∃ u, s.cart ≠ none ∧ CpuStep s u ∧ t = u.advanceBy (u.cpu.cycles - s.cpu.cycles) := by
  unfold step systemStep at h
  split at h
  next cart =>
    cases h
    exact .inl ⟨cart, rfl⟩
  next cart =>
    obtain ⟨u, hu, cases⟩ := cpuStep_next s
    rw [hu] at h
    cases h
    exact .inr ⟨u, cart, cases, rfl⟩

/-- A property kept by CPU changes, by bus writes, by a new IE and IF and by the devices' advance is kept by every step. -/
theorem step_keeps {P : State → Prop} {s t : State} (h : step s = .next t)
    (cpu : ∀ (u : State) (r : Regs) (c : Cpu), P u → P { u with regs := r, cpu := c })
    (write : ∀ (u : State) (a : Word) (v : Byte), P u → P (u.write a v))
    (irq : ∀ (u : State) (q : Irq), P u → P { u with irq := q })
    (devices : ∀ (u : State) (n : Nat), P u → P (u.advanceDevices n)) (hs : P s) : P t := by
  obtain ⟨-, rfl⟩ | ⟨u, -, cpuStep, rfl⟩ := step_cases h
  · exact hs
  · have hu : P u := cpuStep.keeps cpu write irq hs
    unfold State.advanceBy
    split
    · exact hu
    · exact devices u _ hu

end Sys2Proof.Machine
end

section
/-! PROOFS. What the devices' advance can change: the PPU, the APU, the timer and IF, to which it only adds requests. -/

namespace Sys2Proof.Machine

open Sys2Proof.Claims

/-! ### Requests -/

theorem IrqSource.mask_getLsbD (k : IrqSource) {i : Nat} (h : i < 5) : k.mask.getLsbD i = decide (i = k.index) := by
  cases k <;> interval_cases i <;> rfl

theorem Irq.request_getLsbD (q : Irq) (k : IrqSource) {i : Nat} (h : i < 5) :
    (q.request k).iflag.getLsbD i = (q.iflag.getLsbD i || decide (i = k.index)) := by
  simp only [Irq.request, BitVec.getLsbD_or, k.mask_getLsbD h]

theorem Irq.acknowledge_getLsbD (q : Irq) (k : IrqSource) {i : Nat} (h : i < 5) :
    (q.acknowledge k).iflag.getLsbD i = (q.iflag.getLsbD i && decide (i ≠ k.index)) := by
  simp only [Irq.acknowledge, BitVec.getLsbD_and, BitVec.getLsbD_not, k.mask_getLsbD h, h, decide_true, Bool.true_and,
    decide_not]

theorem IrqSource.index_lt (k : IrqSource) : k.index < 5 := by
  cases k <;> decide

theorem IrqSource.index_inj {j k : IrqSource} : j.index = k.index ↔ j = k := by
  cases j <;> cases k <;> decide

/-- A request sets the source's bit and no other. -/
theorem requested_request (s : State) (k j : IrqSource) :
    requested (s.request k) j = (requested s j || decide (j = k)) := by
  simp [requested, Irq.request_getLsbD _ _ j.index_lt, IrqSource.index_inj]

/-! ### Device steps -/

/-- `t` is reached from `s` by the devices: only the PPU, the APU, the timer and IF differ, and IF only by requests of the
PPU and the timer (R410, R453, R475). -/
structure DeviceStep (s t : State) : Prop where
  rest   : t = { s with ppu := t.ppu, apu := t.apu, timer := t.timer, irq := t.irq }
  ie     : t.irq.ie = s.irq.ie
  grows  : ∀ k, requested s k = true → requested t k = true
  serial : requested t .serial = requested s .serial
  joypad : requested t .joypad = requested s .joypad

theorem DeviceStep.of_irq_eq {s t : State} (irq : t.irq = s.irq)
    (rest : t = { s with ppu := t.ppu, apu := t.apu, timer := t.timer, irq := t.irq }) : DeviceStep s t :=
  have same (k : IrqSource) : requested t k = requested s k := by rw [requested, irq, requested]
  ⟨rest, by rw [irq], fun k h => (same k).trans h, same .serial, same .joypad⟩

theorem DeviceStep.refl (s : State) : DeviceStep s s := .of_irq_eq rfl rfl

theorem DeviceStep.trans {s t u : State} (h : DeviceStep s t) (g : DeviceStep t u) : DeviceStep s u where
  rest := by rw [g.rest, h.rest]
  ie := g.ie.trans h.ie
  grows k hk := g.grows k (h.grows k hk)
  serial := g.serial.trans h.serial
  joypad := g.joypad.trans h.joypad

theorem DeviceStep.request (s : State) {k : IrqSource} (serial : k ≠ .serial) (joypad : k ≠ .joypad) :
    DeviceStep s (s.request k) where
  rest := rfl
  ie := rfl
  grows j hj := by simp [requested_request, hj]
  serial := by simp [requested_request, serial.symm]
  joypad := by simp [requested_request, joypad.symm]

theorem DeviceStep.setPpu (s : State) (p : Ppu) : DeviceStep s { s with ppu := p } := .of_irq_eq rfl rfl

theorem State.evalStat_deviceStep (s : State) : DeviceStep s s.evalStat := by
  unfold State.evalStat
  dsimp only
  split
  · exact (DeviceStep.request s (by decide) (by decide)).trans (.setPpu _ _)
  · exact .setPpu s _

theorem State.ppuTransition_deviceStep {s t : State} (h : s.ppuTransition = some t) : DeviceStep s t := by
  unfold State.ppuTransition at h
  dsimp only at h
  split at h
  next => -- the OAM scan
    obtain ⟨-, h⟩ := Option.ite_none_right_eq_some.mp h
    cases h
    exact .setPpu s _
  next => -- drawing
    obtain ⟨-, h⟩ := Option.ite_none_right_eq_some.mp h
    cases h
    exact .setPpu s _
  next => -- H-blank, whose last line enters V-blank
    obtain ⟨-, h⟩ := Option.ite_none_right_eq_some.mp h
    split at h
    · cases h
      exact (DeviceStep.request s (k := .vblank) (by decide) (by decide)).trans (.setPpu _ _)
    · cases h
      exact .setPpu s _
  next => -- V-blank
    obtain ⟨-, h⟩ := Option.ite_none_right_eq_some.mp h
    split at h <;> cases h <;> exact .setPpu s _

theorem State.ppuLoop_deviceStep (n : Nat) (s : State) : DeviceStep s (State.ppuLoop n s) := by
  induction n generalizing s with
  | zero => exact .refl s
  | succ n ih =>
    unfold State.ppuLoop
    split
    next => exact .refl s
    next t ht => exact (s.ppuTransition_deviceStep ht).trans (t.evalStat_deviceStep.trans (ih _))

theorem State.ppuAdvance_deviceStep (s : State) (n : Nat) : DeviceStep s (s.ppuAdvance n) := by
  unfold State.ppuAdvance
  split
  · exact (DeviceStep.setPpu s _).trans (State.ppuLoop_deviceStep _ _)
  · exact .refl s

theorem State.apuAdvance_deviceStep (s : State) (n : Nat) : DeviceStep s (s.apuAdvance n) := .of_irq_eq rfl rfl

theorem State.timerAdvance_deviceStep (s : State) (n : Nat) : DeviceStep s (s.timerAdvance n) := by
  have timer (t : Timer) : DeviceStep s { s with timer := t } := .of_irq_eq rfl rfl
  unfold State.timerAdvance
  dsimp only
  split
  · exact (timer _).trans (.request _ (by decide) (by decide))
  · exact timer _

/-- R530, R542: the devices' advance is a device step, and `frameAcc` grows. -/
theorem State.advanceDevices_eq (s : State) (n : Nat) :
    ∃ t, DeviceStep s t ∧ s.advanceDevices n = { t with frameAcc := s.frameAcc + n } := by
  have h : DeviceStep s (((s.ppuAdvance n).apuAdvance n).timerAdvance n) :=
    (s.ppuAdvance_deviceStep n).trans ((State.apuAdvance_deviceStep _ n).trans (State.timerAdvance_deviceStep _ n))
  refine ⟨_, h, ?_⟩
  have acc : (((s.ppuAdvance n).apuAdvance n).timerAdvance n).frameAcc = s.frameAcc := by rw [h.rest]
  rw [← acc]
  rfl

/-! ### What the devices' advance leaves alone -/

section
variable (s : State) (n : Nat)

/-- Every part of the state but the devices, IF and `frameAcc` is as before. -/
theorem State.advanceDevices_rest :
    s.advanceDevices n =
      { s with
        ppu := (s.advanceDevices n).ppu, apu := (s.advanceDevices n).apu, timer := (s.advanceDevices n).timer
        irq := (s.advanceDevices n).irq, frameAcc := s.frameAcc + n } := by
  obtain ⟨t, h, e⟩ := s.advanceDevices_eq n
  rw [e, h.rest]

@[simp] theorem State.advanceDevices_mem : (s.advanceDevices n).mem = s.mem := by
  rw [s.advanceDevices_rest n]

@[simp] theorem State.advanceDevices_cart : (s.advanceDevices n).cart = s.cart := by
  rw [s.advanceDevices_rest n]

@[simp] theorem State.advanceDevices_regs : (s.advanceDevices n).regs = s.regs := by
  rw [s.advanceDevices_rest n]

@[simp] theorem State.advanceDevices_cpu : (s.advanceDevices n).cpu = s.cpu := by
  rw [s.advanceDevices_rest n]

@[simp] theorem State.advanceDevices_serial : (s.advanceDevices n).serial = s.serial := by
  rw [s.advanceDevices_rest n]

@[simp] theorem State.advanceDevices_frameAcc : (s.advanceDevices n).frameAcc = s.frameAcc + n := by
  rw [s.advanceDevices_rest n]

@[simp] theorem State.advanceDevices_frameTotal : (s.advanceDevices n).frameTotal = s.frameTotal := by
  rw [s.advanceDevices_rest n]

end

end Sys2Proof.Machine
end

section
/-! PROOFS. The bus keeps the internal memory canonical and inside its addresses (R49, R72). -/

namespace Sys2Proof.Machine

/-! ### The address map, inverted -/

/-- The addresses of each region (R72). -/
def Region.bounds : Region → Nat × Nat
  | .rom => (0x0000, 0x8000)
  | .vram => (0x8000, 0xA000)
  | .extRam => (0xA000, 0xC000)
  | .wram => (0xC000, 0xE000)
  | .echo => (0xE000, 0xFE00)
  | .oam => (0xFE00, 0xFEA0)
  | .unusable => (0xFEA0, 0xFF00)
  | .io => (0xFF00, 0xFF80)
  | .hram => (0xFF80, 0xFFFF)
  | .ie => (0xFFFF, 0x10000)

theorem regionOf_bounds (a : Word) : (regionOf a).bounds.1 ≤ a.toNat ∧ a.toNat < (regionOf a).bounds.2 := by
  have := a.isLt
  unfold regionOf
  dsimp only
  split_ifs <;> simp only [Region.bounds] <;> omega

theorem regionOf_eq_iff (a : Word) (r : Region) : regionOf a = r ↔ r.bounds.1 ≤ a.toNat ∧ a.toNat < r.bounds.2 := by
  constructor
  · rintro rfl
    exact regionOf_bounds a
  · have h := regionOf_bounds a
    generalize regionOf a = q at h
    cases q <;> cases r <;> simp [Region.bounds] at h ⊢ <;> omega

/-- VRAM, WRAM, OAM and HRAM are internal memories (R49). -/
theorem isInternalRam_of_region {a : Word} {r : Region} (e : regionOf a = r)
    (internal : r = .vram ∨ r = .wram ∨ r = .oam ∨ r = .hram) : isInternalRam a.toNat = true := by
  have h := (regionOf_eq_iff a r).mp e
  rcases internal with rfl | rfl | rfl | rfl <;> simp [isInternalRam, Region.bounds] at h ⊢ <;> omega

/-- R78: the byte behind an echo address is work RAM. -/
theorem isInternalRam_of_echo {a : Word} (e : regionOf a = .echo) : isInternalRam (a.toNat - 0x2000) = true := by
  have h := (regionOf_eq_iff a .echo).mp e
  simp [isInternalRam, Region.bounds] at h ⊢
  omega

/-- R47: the wave RAM's registers are 0xFF30..0xFF3F. -/
theorem ioRegAt_waveRam : ∀ n < 0x80, ioRegAt n = .waveRam → 0x30 ≤ n ∧ n < 0x40 := by decide

theorem isInternalRam_waveRam {a : Word} (region : regionOf a = .io) (reg : ioReg a = .waveRam) :
    isInternalRam a.toNat = true := by
  have h := (regionOf_eq_iff a .io).mp region
  simp only [Region.bounds] at h
  have := ioRegAt_waveRam (a.toNat % 0x100) (by omega) reg
  simp [isInternalRam]
  omega

/-! ### Stores -/

theorem State.store_memOk {s : State} {a : Nat} (v : Byte) (h : s.MemOk) (ha : isInternalRam a = true) :
    (s.store a v).MemOk := by
  refine ⟨Memory.wf_write a v h.1, fun cell hc => ?_⟩
  obtain ⟨rfl, -⟩ | ⟨hc, -⟩ := Memory.mem_write hc
  · exact ha
  · exact h.2 cell hc

theorem State.memOk_of_mem_eq {s t : State} (e : t.mem = s.mem) (h : s.MemOk) : t.MemOk := by
  unfold State.MemOk
  rwa [e]

theorem State.evalStat_mem (s : State) : s.evalStat.mem = s.mem := by
  rw [s.evalStat_deviceStep.rest]

theorem State.oamDma_memOk {s : State} (v : Byte) (k : Nat) (h : s.MemOk) : (State.oamDma s v k).MemOk := by
  induction k generalizing s with
  | zero => exact h
  | succ k ih =>
    have inside : isInternalRam (0xFE00 + (159 - k)) = true := by
      simp [isInternalRam]
      omega
    exact ih (State.store_memOk _ h inside)

theorem State.writeDma_memOk {s : State} (v : Byte) (h : s.MemOk) : (s.writeDma v).MemOk := by
  unfold State.writeDma
  exact State.oamDma_memOk (s := { s with dma := v }) v 160 h

/-- A register write changes the memory only by the OAM DMA and, in the wave RAM, by a store. -/
theorem State.writeIo_memOk {s : State} {r : IoReg} {a : Word} (v : Byte) (h : s.MemOk)
    (wave : r = .waveRam → isInternalRam a.toNat = true) : (s.writeIo r a v).MemOk := by
  have viaStat (p : Ppu) : (State.evalStat { s with ppu := p }).MemOk := State.memOk_of_mem_eq (State.evalStat_mem _) h
  cases r
  case waveRam => exact State.store_memOk v h (wave rfl)
  case dma => exact State.writeDma_memOk v h
  case stat => exact viaStat _
  case lyc => exact viaStat _
  case ly => exact viaStat _
  case lcdc =>
    unfold State.writeIo State.writeLcdc
    dsimp only
    split
    · exact h
    · split <;> exact viaStat _
  all_goals exact h

/-- A bus write keeps the internal memory canonical and inside its addresses. -/
theorem State.write_memOk {s : State} (a : Word) (v : Byte) (h : s.MemOk) : (s.write a v).MemOk := by
  have plain {r : Region} (e : regionOf a = r) (internal : r = .vram ∨ r = .wram ∨ r = .oam ∨ r = .hram) :
      (s.store a.toNat v).MemOk := State.store_memOk v h (isInternalRam_of_region e internal)
  unfold State.write
  split
  next => exact h -- ROM
  next e => -- VRAM
    split
    · exact h
    · exact plain e (by decide)
  next => exact h -- external RAM
  next e => exact plain e (by decide) -- WRAM
  next e => exact State.store_memOk v h (isInternalRam_of_echo e) -- echo RAM
  next e => -- OAM
    split
    · exact h
    · exact plain e (by decide)
  next => exact h -- unusable
  next e => exact State.writeIo_memOk v h (isInternalRam_waveRam e) -- I/O
  next e => exact plain e (by decide) -- HRAM
  next => exact h -- IE

/-- Settles O55: every step is made of CPU changes, bus writes and the devices' advance, and of these only the bus writes
touch the memory. -/
theorem stepKeepsMemory : Obligations.StepKeepsMemory := by
  intro s t ok h
  refine step_keeps (P := State.MemOk) h (fun _ _ _ hu => hu) (fun _ a v hu => State.write_memOk a v hu)
    (fun _ _ hu => hu) (fun u n hu => State.memOk_of_mem_eq (u.advanceDevices_mem n) hu) ok

end Sys2Proof.Machine
end

section
/-! PROOFS. The CPU's control state and the cycle account over a step (R38, R41, R344, R530). -/

namespace Sys2Proof.Machine

/-! ### The CPU's control state -/

theorem Cpu.control_eq_iff {c d : Cpu} :
    d.control = c.control ↔ d.ime = c.ime ∧ d.eiDelay = c.eiDelay ∧ d.halted = c.halted ∧ d.stopped = c.stopped ∧
      d.fault = c.fault := by
  simp [Cpu.control]

/-- `Cpu.Ok` looks only at the control state. -/
theorem Cpu.ok_of_control_eq {c d : Cpu} (e : d.control = c.control) (h : c.Ok) : d.Ok := by
  obtain ⟨ime, delay, halted, stopped, -⟩ := Cpu.control_eq_iff.mp e
  exact ⟨by rw [stopped, h.stopped], by rw [delay]; exact h.delay, by rw [delay, ime, halted]; exact h.waiting⟩

/-- R344: the count of the EI delay makes the control state legal; a delay begun by this instruction is left with one
step. -/
theorem State.countEiDelay_cpuOk {s : State} (stopped : s.cpu.stopped = false)
    (begun : s.cpu.eiDelay = 2 → s.cpu.ime = false ∧ s.cpu.halted = false) : s.countEiDelay.cpu.Ok := by
  unfold State.countEiDelay
  split
  next delay => exact ⟨stopped, by rw [delay]; decide, by rw [delay]; exact fun h => absurd h (by decide)⟩
  next => exact ⟨stopped, (by decide : (0 : Fin 3) ≠ 2), fun h => absurd h (by decide : (0 : Fin 3) ≠ 1)⟩
  next delay => exact ⟨stopped, (by decide : (1 : Fin 3) ≠ 2), fun _ => begun delay⟩

/-- A step that executes an instruction leaves the control state legal. -/
theorem InstrEnds.afterInstr_cpuOk {s t : State} (h : InstrEnds s t) (ok : s.cpu.Ok) (fault : s.cpu.fault = none)
    (running : s.cpu.halted = false) : t.afterInstr.cpu.Ok := by
  have counted {d : Cpu} (e : t.cpu.control = d.control) (none : d.fault = none) (stopped : d.stopped = false)
      (begun : d.eiDelay = 2 → d.ime = false ∧ d.halted = false) : t.afterInstr.cpu.Ok := by
    obtain ⟨ime', delay', halted', stopped', fault'⟩ := Cpu.control_eq_iff.mp e
    simp only [State.afterInstr, fault', none]
    exact State.countEiDelay_cpuOk (stopped'.trans stopped) (by rwa [delay', ime', halted'])
  have zero : (0 : Fin 3) ≠ 2 := by decide
  cases h.control with
  | keeps e => exact counted e fault ok.stopped fun two => absurd two ok.delay
  | halts e => exact counted e fault ok.stopped fun two => absurd two ok.delay
  | disables e => exact counted e fault ok.stopped fun two => absurd two zero
  | returns e => exact counted e fault ok.stopped fun two => absurd two zero
  | delays off _ e => exact counted e fault ok.stopped fun _ => ⟨off, running⟩
  | faults f e =>
    obtain ⟨-, -, -, -, some⟩ := Cpu.control_eq_iff.mp e
    simp only [State.afterInstr, some]
    exact Cpu.ok_of_control_eq e ⟨ok.stopped, ok.delay, ok.waiting⟩

theorem State.takeInterrupt_cpu (s : State) (k : IrqSource) :
    (s.takeInterrupt k).cpu =
      { s.cpu with ime := false, eiDelay := 0, halted := false, cycles := s.cpu.cycles + 20 } := by
  simp [State.takeInterrupt, State.push16_cpu]

theorem CpuStep.cpuOk {s t : State} (h : CpuStep s t) (ok : s.cpu.Ok) : t.cpu.Ok := by
  cases h with
  | faulted => exact ok
  | interrupt k =>
    rw [State.takeInterrupt_cpu]
    exact ⟨ok.stopped, (by decide : (0 : Fin 3) ≠ 2), fun h => absurd h (by decide : (0 : Fin 3) ≠ 1)⟩
  | idle => exact ⟨ok.stopped, ok.delay, ok.waiting⟩
  | wakes fault _ _ ends =>
    have woken : s.wake.cpu.Ok := ⟨ok.stopped, ok.delay, fun one => ⟨(ok.waiting one).1, rfl⟩⟩
    exact ends.afterInstr_cpuOk woken fault rfl
  | runs fault running ends => exact ends.afterInstr_cpuOk ok fault running

/-! ### The cycle account -/

/-- R43: `cycles` never falls. -/
theorem CpuStep.cycles_le {s t : State} (h : CpuStep s t) : s.cpu.cycles ≤ t.cpu.cycles := by
  have after (u : State) : u.afterInstr.cpu.cycles = u.cpu.cycles := by
    obtain ⟨c, e, cycles⟩ := u.afterInstr_eq
    rw [e, cycles]
  cases h with
  | faulted => exact Nat.le_refl _
  | interrupt k => simp [State.takeInterrupt_cpu]
  | idle => exact Nat.le_add_right ..
  | wakes _ _ _ ends => exact (after _).symm ▸ ends.cycles
  | runs _ _ ends => exact (after _).symm ▸ ends.cycles

/-- R530: the System's counters are not the CPU's to change. -/
theorem CpuStep.frame_eq {s t : State} (h : CpuStep s t) : t.frameAcc = s.frameAcc ∧ t.frameTotal = s.frameTotal :=
  h.keeps (P := fun u => u.frameAcc = s.frameAcc ∧ u.frameTotal = s.frameTotal) (fun _ _ _ hu => hu)
    (fun u a v hu => by simpa using hu) (fun _ _ hu => hu) ⟨rfl, rfl⟩

theorem State.advanceBy_cpu (s : State) (n : Nat) : (s.advanceBy n).cpu = s.cpu := by
  unfold State.advanceBy
  split <;> simp

theorem State.advanceBy_frameAcc (s : State) (n : Nat) : (s.advanceBy n).frameAcc = s.frameAcc + n := by
  unfold State.advanceBy
  split <;> simp_all

theorem State.advanceBy_frameTotal (s : State) (n : Nat) : (s.advanceBy n).frameTotal = s.frameTotal := by
  unfold State.advanceBy
  split <;> simp

/-- R530, R531: what the CPU step adds to `cycles` the System adds to `frameAcc`. -/
theorem CpuStep.accounted {s u : State} (h : CpuStep s u) (account : s.cpu.cycles = s.frameTotal + s.frameAcc) :
    let t := u.advanceBy (u.cpu.cycles - s.cpu.cycles)
    t.cpu.cycles = t.frameTotal + t.frameAcc := by
  obtain ⟨acc, total⟩ := h.frame_eq
  have := h.cycles_le
  simp only [State.advanceBy_cpu, State.advanceBy_frameAcc, State.advanceBy_frameTotal, acc, total]
  omega

/-- Settles O57: by the cases of the CPU step; the devices leave the CPU alone and count its cycles. -/
theorem stepKeepsCpu : Obligations.StepKeepsCpu := by
  intro s t h
  obtain ⟨-, rfl⟩ | ⟨u, -, cpuStep, rfl⟩ := step_cases h
  · exact ⟨id, id⟩
  · exact ⟨fun ok => (u.advanceBy_cpu _).symm ▸ cpuStep.cpuOk ok, cpuStep.accounted⟩

end Sys2Proof.Machine
end

section
/-! PROOFS. The reset state, the interrupt registers, the silent addresses, and what the devices request (R44, R45, R48,
R51, R410, R475). -/

namespace Sys2Proof.Machine

open Sys2Proof.Claims

/-- Settles O38: the values are those of `Regs.reset` and `Cpu.reset`. -/
theorem resetCpu : Obligations.ResetCpu := by
  unfold Obligations.ResetCpu
  decide

/-! ### Accesses to the registers -/

theorem State.read_io {s : State} {a : Word} (h : regionOf a = .io) : s.read a = s.readIo (ioReg a) a := by
  simp only [State.read, h]

theorem State.write_io {s : State} {a : Word} (v : Byte) (h : regionOf a = .io) :
    s.write a v = s.writeIo (ioReg a) a v := by
  simp only [State.write, h]

theorem regionOf_eq {a : Word} (r : Region) (lo : r.bounds.1 ≤ a.toNat) (hi : a.toNat < r.bounds.2) : regionOf a = r :=
  (regionOf_eq_iff a r).mpr ⟨lo, hi⟩

/-! ### Silent addresses -/

/-- R48, R95: the offsets of R48's list and of 0xFF50 hold no register that stores. -/
theorem ioRegAt_silent : ∀ n < 0x80, n = 0x03 ∨ (0x08 ≤ n ∧ n ≤ 0x0E) ∨ n = 0x15 ∨ n = 0x1F ∨ (0x27 ≤ n ∧ n ≤ 0x2F) ∨
    0x4C ≤ n → ioRegAt n = .unused ∨ ioRegAt n = .boot := by
  decide

/-- A silent address is in the unusable region, or it is an unused register or 0xFF50. -/
theorem silent_cases {a : Word} (h : Silent a) :
    regionOf a = .unusable ∨ (regionOf a = .io ∧ (ioReg a = .unused ∨ ioReg a = .boot)) := by
  unfold Silent at h
  by_cases unusable : a.toNat ≤ 0xFEFF
  · exact .inl (regionOf_eq .unusable (by simp only [Region.bounds]; omega) (by simp only [Region.bounds]; omega))
  · exact .inr ⟨regionOf_eq .io (by simp only [Region.bounds]; omega) (by simp only [Region.bounds]; omega),
      ioRegAt_silent _ (by omega) (by omega)⟩

/-- Settles O45: by the three places a silent address can be. -/
theorem silentAddresses : Obligations.SilentAddresses := by
  intro s a v h
  obtain region | ⟨region, reg | reg⟩ := silent_cases h
  · simp only [State.read, State.write, region, and_self]
  · simp only [State.read_io region, State.write_io v region, reg, State.readIo, State.writeIo, and_self]
  · simp only [State.read_io region, State.write_io v region, reg, State.readIo, State.writeIo, and_self]

/-! ### IE and IF -/

/-- R44, R45: the five stored bits read with bits 7..5 at 1. -/
theorem ones_append (x : BitVec 5) : 0b111#3 ++ x = 0xE0 ||| x.setWidth 8 := by
  revert x
  decide

theorem ones_append_setWidth (v : Byte) : 0b111#3 ++ v.setWidth 5 = v ||| 0xE0 := by
  revert v
  decide

theorem State.read_ie (s : State) : s.read 0xFFFF = 0b111#3 ++ s.irq.ie := rfl

theorem State.read_if (s : State) : s.read 0xFF0F = 0b111#3 ++ s.irq.iflag := rfl

theorem State.write_ie (s : State) (v : Byte) : s.write 0xFFFF v = { s with irq := { s.irq with ie := v.setWidth 5 } } := rfl

theorem State.write_if (s : State) (v : Byte) :
    s.write 0xFF0F v = { s with irq := { s.irq with iflag := v.setWidth 5 } } := rfl

/-- Settles O41: the accesses are those of the two registers, and a mask has the source's bit alone. -/
theorem interruptRegisters : Obligations.InterruptRegisters := by
  refine ⟨by decide, by decide, fun s v => ?_, fun s k i hi => ?_⟩
  · rw [State.read_ie, State.read_if, State.read_ie, State.read_if]
    exact ⟨s.write_ie v, s.write_if v, ones_append_setWidth v, ones_append_setWidth v, ones_append _, ones_append _⟩
  · exact ⟨⟨rfl, rfl, s.irq.request_getLsbD k hi⟩, rfl, s.irq.acknowledge_getLsbD k hi⟩

/-! ### SB, SC and the devices' requests -/

theorem State.write_sc (s : State) (v : Byte) :
    s.write 0xFF02 v = { s with serial := { s.serial with start := v.getLsbD 7, clock := v.getLsbD 0 } } := rfl

theorem State.read_sc (s : State) : s.read 0xFF02 = s.serial.scByte := rfl

theorem getLsbD_eq_div_mod {w : Nat} (v : BitVec w) (i : Nat) : v.getLsbD i = decide (v.toNat / 2 ^ i % 2 = 1) :=
  Nat.testBit_eq_decide_div_mod_eq

theorem getLsbD_seven (v : Byte) : v.getLsbD 7 = decide (128 ≤ v.toNat) := by
  have := v.isLt
  rw [getLsbD_eq_div_mod, decide_eq_decide]
  omega

theorem getLsbD_zero (v : Byte) : v.getLsbD 0 = decide (v.toNat % 2 = 1) := by
  rw [getLsbD_eq_div_mod, pow_zero, Nat.div_one]

/-- R47: SC reads `stored | 0x7E`. -/
theorem scByte_written (v : Byte) : BitVec.ofBool (v.getLsbD 7) ++ 0b111111#6 ++ BitVec.ofBool (v.getLsbD 0) = v ||| 0x7E := by
  revert v
  decide

theorem Serial.scByte_toNat (r : Serial) : r.scByte.toNat = 0x7E + 128 * bit r.start + bit r.clock := by
  unfold Serial.scByte
  cases r.start <;> cases r.clock <;> rfl

/-- Settles O53: the advance is a device step; SB and SC are their two accesses. -/
theorem deviceRequests : Obligations.DeviceRequests := by
  refine ⟨fun s v => ⟨rfl, rfl, ?_, ?_, ?_⟩, fun s n => ?_⟩
  · rw [State.write_sc, getLsbD_seven, getLsbD_zero]
  · rw [State.write_sc, State.read_sc]
    exact scByte_written v
  · rw [State.read_sc]
    exact s.serial.scByte_toNat
  · obtain ⟨t, h, e⟩ := s.advanceDevices_eq n
    have irq : (s.advanceDevices n).irq = t.irq := by rw [e]
    have same (k : IrqSource) : requested (s.advanceDevices n) k = requested t k := by rw [requested, irq, requested]
    refine ⟨by simp, fun k hk => ?_, ?_, ?_, ?_, by simp, by simp, by simp, by simp, by simp⟩
    · rw [same]
      exact h.grows k hk
    · rw [same, h.serial]
    · rw [same, h.joypad]
    · rw [irq, h.ie]

end Sys2Proof.Machine
end

section
/-! PROOFS. The LCD registers, the STAT line and the PPU's mode transitions (R461, R465 to R467). -/

namespace Sys2Proof.Machine

open Sys2Proof.Claims

/-! ### STAT -/

theorem State.read_stat (s : State) : s.read 0xFF41 = s.ppu.statByte := rfl

/-- R465: the fields of STAT as read. -/
theorem Ppu.statByte_fields (p : Ppu) :
    p.statByte.getLsbD 7 = true ∧ p.statByte.extractLsb' 3 4 = p.statEnable ∧
      p.statByte.getLsbD 2 = p.coincidence ∧ p.statByte.extractLsb' 0 2 = p.mode.bits := by
  unfold Ppu.statByte
  generalize p.statEnable = e, p.coincidence = c, p.mode.bits = m
  revert e c m
  decide

theorem Ppu.coincidence_iff (p : Ppu) : p.coincidence = true ↔ p.line = p.lyc.toNat := by
  simp [Ppu.coincidence]

theorem Ppu.statLevel_iff (p : Ppu) : p.statLevel = true ↔ Claims.statLevel p := by
  simp only [Ppu.statLevel, Ppu.lcdOn, Claims.statLevel, Bool.and_eq_true, Bool.or_eq_true, beq_iff_eq,
    Ppu.coincidence_iff, or_assoc]

/-- R465: what the evaluation of the STAT line does, by whether the line rises. -/
theorem State.evalStat_eq (s : State) :
    s.evalStat =
      { s with
        ppu := { s.ppu with statLine := s.ppu.statLevel }
        irq := if s.ppu.statLine = false ∧ s.ppu.statLevel = true then s.irq.request .lcdStat else s.irq } := by
  unfold State.evalStat
  cases s.ppu.statLevel <;> cases s.ppu.statLine <;> rfl

theorem State.evalStat_evaluated (s : State) : StatEvaluated s s.evalStat := by
  rw [State.evalStat_eq]
  exact ⟨s.ppu.statLevel_iff, rfl⟩

/-- R465: a write to STAT stores bits 6..3. -/
theorem extractLsb'_three_four (v : Byte) : v.extractLsb' 3 4 = BitVec.ofNat 4 (v.toNat / 8 % 16) := by
  apply BitVec.eq_of_toNat_eq
  simp [Nat.shiftRight_eq_div_pow]

/-! ### Register writes that evaluate the line -/

section
variable (s : State) (v : Byte)

theorem State.write_stat : s.write 0xFF41 v = s.writeStat v := rfl

theorem State.write_lyc : s.write 0xFF45 v = s.writeLyc v := rfl

theorem State.write_ly : s.write 0xFF44 v = s.writeLy := rfl

theorem State.write_lcdc : s.write 0xFF40 v = s.writeLcdc v := rfl

/-- R467: bit 7 of LCDC kept. -/
theorem State.writeLcdc_kept (h : s.ppu.lcdc.getLsbD 7 = v.getLsbD 7) :
    s.writeLcdc v = State.evalStat { s with ppu := { s.ppu with lcdc := v } } := by
  simp only [State.writeLcdc, Ppu.lcdOn, h]
  cases v.getLsbD 7 <;> rfl

/-- R467: the LCD switched off. -/
theorem State.writeLcdc_off (on : s.ppu.lcdc.getLsbD 7 = true) (off : v.getLsbD 7 = false) :
    s.writeLcdc v =
      { s with
        ppu := { s.ppu with
          lcdc := v, mode := .hblank, line := 0, modeCycles := 0, statLine := false
          work := blankFrame s.config.shades.s0, output := blankFrame s.config.shades.s0 } } := by
  simp only [State.writeLcdc, Ppu.lcdOn, on, off]
  rfl

/-- R467: the LCD switched on. -/
theorem State.writeLcdc_on (off : s.ppu.lcdc.getLsbD 7 = false) (on : v.getLsbD 7 = true) :
    s.writeLcdc v =
      State.evalStat { s with ppu := { s.ppu with lcdc := v, mode := .oamScan, line := 0, modeCycles := 0 } } := by
  simp only [State.writeLcdc, Ppu.lcdOn, on, off]
  rfl

end

/-! ### Mode transitions -/

/-- R461: no transition before the mode's duration has elapsed. -/
theorem State.ppuTransition_none {s : State} (h : s.ppu.modeCycles < s.ppu.mode.duration) : s.ppuTransition = none := by
  unfold State.ppuTransition
  dsimp only
  split
  all_goals
    next mode =>
      rw [mode] at h
      exact if_neg (Nat.not_le_of_lt h)

/-- R461: `t` is `s` after the transition out of a mode whose duration has elapsed: the next mode and line, the excess
cycles carried, V-blank requested on entering line 144, the STAT line and the registers it depends on untouched. -/
structure ModeEnded (s t : State) : Prop where
  rest       : t = { s with ppu := t.ppu, irq := t.irq }
  next       : (t.ppu.mode, t.ppu.line) = nextMode s.ppu.mode s.ppu.line
  cycles     : t.ppu.modeCycles = s.ppu.modeCycles - s.ppu.mode.duration
  statLine   : t.ppu.statLine = s.ppu.statLine
  statEnable : t.ppu.statEnable = s.ppu.statEnable
  lyc        : t.ppu.lyc = s.ppu.lyc
  lcdc       : t.ppu.lcdc = s.ppu.lcdc
  irq        : t.irq = if s.ppu.mode = .hblank ∧ s.ppu.line + 1 = 144 then s.irq.request .vblank else s.irq

theorem State.ppuTransition_some {s : State} (h : s.ppu.mode.duration ≤ s.ppu.modeCycles) :
    ∃ t, s.ppuTransition = some t ∧ ModeEnded s t := by
  unfold State.ppuTransition
  dsimp only
  split
  next mode =>
    rw [mode] at h
    exact ⟨_, if_pos h, rfl, by rw [mode]; rfl, by rw [mode]; rfl, rfl, rfl, rfl, rfl, by simp [mode]⟩
  next mode =>
    rw [mode] at h
    exact ⟨_, if_pos h, rfl, by rw [mode]; rfl, by rw [mode]; rfl, rfl, rfl, rfl, rfl, by simp [mode]⟩
  next mode =>
    rw [mode] at h
    by_cases last : s.ppu.line + 1 = 144
    · exact ⟨_, (if_pos h).trans (if_pos last), rfl, by simp [nextMode, mode, last, State.enterVblank],
        by rw [mode]; rfl, rfl, rfl, rfl, rfl, by simp [mode, last, State.enterVblank]⟩
    · exact ⟨_, (if_pos h).trans (if_neg last), rfl, by simp [nextMode, mode, last], by rw [mode]; rfl, rfl, rfl, rfl,
        rfl, by simp [last]⟩
  next mode =>
    rw [mode] at h
    by_cases last : s.ppu.line + 1 = 154
    · exact ⟨_, (if_pos h).trans (if_pos last), rfl, by simp [nextMode, mode, last], by rw [mode]; rfl, rfl, rfl, rfl,
        rfl, by simp [mode]⟩
    · exact ⟨_, (if_pos h).trans (if_neg last), rfl, by simp [nextMode, mode, last], by rw [mode]; rfl, rfl, rfl, rfl,
        rfl, by simp [mode]⟩

theorem PpuMode.duration_ge (m : PpuMode) : 80 ≤ m.duration := by
  cases m <;> decide

theorem State.ppuLoop_of_none {s : State} (h : s.ppuTransition = none) (n : Nat) : State.ppuLoop n s = s := by
  cases n with
  | zero => rfl
  | succ n => simp only [State.ppuLoop, h]

theorem State.evalStat_ppu (s : State) : s.evalStat.ppu = { s.ppu with statLine := s.ppu.statLevel } := by
  rw [State.evalStat_eq]

/-- `s` with `n` more cycles counted in the current mode: how `ppuAdvance` begins. -/
def State.addModeCycles (s : State) (n : Nat) : State :=
  { s with ppu := { s.ppu with modeCycles := s.ppu.modeCycles + n } }

theorem State.ppuAdvance_on {s : State} (n : Nat) (on : s.ppu.lcdc.getLsbD 7 = true) :
    s.ppuAdvance n = State.ppuLoop ((s.ppu.modeCycles + n) / 80) (s.addModeCycles n) := if_pos on

/-- R467: with the LCD off the PPU does not advance. -/
theorem State.ppuAdvance_off {s : State} (n : Nat) (off : s.ppu.lcdc.getLsbD 7 = false) : s.ppuAdvance n = s :=
  if_neg (by rw [Ppu.lcdOn, off]; decide)

/-- R461: an advance inside a mode counts its cycles. -/
theorem State.ppuAdvance_within {s : State} {n : Nat} (on : s.ppu.lcdc.getLsbD 7 = true)
    (within : s.ppu.modeCycles + n < s.ppu.mode.duration) : s.ppuAdvance n = s.addModeCycles n := by
  rw [State.ppuAdvance_on n on]
  exact State.ppuLoop_of_none (State.ppuTransition_none within) _

/-- R461: an advance to the end of a mode makes one transition, and evaluates the STAT line after it. -/
theorem State.ppuAdvance_modeEnded {s : State} {n : Nat} (on : s.ppu.lcdc.getLsbD 7 = true)
    (whole : s.ppu.modeCycles + n = s.ppu.mode.duration) :
    ∃ t, ModeEnded (s.addModeCycles n) t ∧ t.ppu.modeCycles = 0 ∧ s.ppuAdvance n = t.evalStat := by
  obtain ⟨t, ht, ended⟩ := State.ppuTransition_some (s := s.addModeCycles n) whole.ge
  have zero : t.ppu.modeCycles = 0 := ended.cycles.trans (Nat.sub_eq_zero_of_le whole.le)
  have resting : t.evalStat.ppuTransition = none := by
    apply State.ppuTransition_none
    have := t.ppu.mode.duration_ge
    simp only [State.evalStat_ppu, zero]
    omega
  obtain ⟨k, hk⟩ : ∃ k, (s.ppu.modeCycles + n) / 80 = k + 1 := by
    have := s.ppu.mode.duration_ge
    exact ⟨(s.ppu.modeCycles + n) / 80 - 1, by omega⟩
  refine ⟨t, ended, zero, ?_⟩
  rw [State.ppuAdvance_on n on, hk, State.ppuLoop, ht]
  exact State.ppuLoop_of_none resting k

/-- Settles O51: every such write and every transition ends in the evaluation of the STAT line. -/
theorem lcdRegisters : Obligations.LcdRegisters := by
  refine ⟨fun s => ?_, fun s v => ⟨?_, ?_, ?_, fun same => ?_⟩, fun s v on off => ⟨?_, fun n => ?_⟩, fun s v off on => ?_,
    fun s n on _ => ⟨State.ppuAdvance_within on, fun whole => ?_⟩, fun s v => ?_⟩
  · -- what STAT reads
    obtain ⟨top, enable, coincidence, mode⟩ := s.ppu.statByte_fields
    rw [State.read_stat]
    refine ⟨top, enable, by rw [coincidence, Ppu.coincidence_iff], ?_⟩
    rw [mode]
    cases s.ppu.mode <;> rfl
  · -- the writes of STAT, LYC, LY and LCDC
    rw [State.write_stat, ← extractLsb'_three_four]
    exact State.evalStat_evaluated _
  · rw [State.write_lyc]
    exact State.evalStat_evaluated _
  · rw [State.write_ly]
    exact State.evalStat_evaluated _
  · rw [State.write_lcdc, State.writeLcdc_kept s v same]
    exact State.evalStat_evaluated _
  · -- the LCD switched off, and on
    rw [State.write_lcdc, State.writeLcdc_off s v on off]
  · rw [State.write_lcdc, State.writeLcdc_off s v on off]
    exact State.ppuAdvance_off n off
  · rw [State.write_lcdc, State.writeLcdc_on s v off on]
    exact State.evalStat_evaluated _
  · -- a mode transition
    obtain ⟨t, ended, zero, advance⟩ := State.ppuAdvance_modeEnded on whole
    rw [advance]
    exact ⟨t, t.evalStat_evaluated, ended.rest, ended.next, zero, ended.statLine, ended.statEnable, ended.lyc, ended.lcdc,
      ended.irq⟩
  · -- the plain registers
    exact ⟨⟨rfl, rfl⟩, ⟨rfl, rfl⟩, ⟨rfl, rfl⟩, ⟨rfl, rfl⟩, ⟨rfl, rfl⟩, ⟨rfl, rfl⟩, ⟨rfl, rfl⟩, rfl, rfl, rfl, rfl⟩

end Sys2Proof.Machine
end

section
/-! PROOFS. The sound registers: their fields as numbers, what a write does, the triggers, and the power switch (R47, R481,
R485 to R490). -/

namespace Sys2Proof.Machine

open Sys2Proof.Claims

/-! ### Register fields as numbers -/

theorem extractLsb'_toNat_div (v : Byte) (i n : Nat) : (v.extractLsb' i n).toNat = v.toNat / 2 ^ i % 2 ^ n := by
  rw [BitVec.extractLsb'_toNat, Nat.shiftRight_eq_div_pow]

theorem dacOn_eq (v : Byte) : dacOn v = decide (8 ≤ v.toNat) := by
  revert v
  decide

theorem lengthEnabled_eq (nrx4 : Byte) : lengthEnabled nrx4 = decide (nrx4.toNat / 64 % 2 = 1) :=
  getLsbD_eq_div_mod nrx4 6

theorem and_0x3F_toNat (v : Byte) : (v &&& 0x3F).toNat = v.toNat % 64 :=
  Nat.and_two_pow_sub_one_eq_mod v.toNat 6

theorem frequency_toNat (nrx3 nrx4 : Byte) : (frequency nrx3 nrx4).toNat = freq nrx3 nrx4 := by
  have := nrx3.isLt
  simp only [frequency, freq, BitVec.toNat_append, extractLsb'_toNat_div]
  rw [Nat.shiftLeft_eq, Nat.mul_comm, ← Nat.two_pow_add_eq_or_of_lt this]
  omega

theorem frequency_eq (nrx3 nrx4 : Byte) : frequency nrx3 nrx4 = BitVec.ofNat 11 (freq nrx3 nrx4) := by
  rw [← frequency_toNat, BitVec.ofNat_toNat, BitVec.setWidth_eq]

theorem sweepPeriod_eq (nr10 : Byte) : sweepPeriod nr10 = nr10.toNat / 16 % 8 := extractLsb'_toNat_div nr10 4 3

theorem sweepShift_eq (nr10 : Byte) : sweepShift nr10 = nr10.toNat % 8 := by
  simp [sweepShift]

/-- R484, R486: NRx2[7:4], the initial volume. -/
theorem initialVolume_toNat (nrx2 : Byte) : (nrx2.extractLsb' 4 4).toNat = nrx2.toNat / 16 := by
  have := nrx2.isLt
  rw [extractLsb'_toNat_div]
  omega

/-- R484, R486: NRx2[2:0], the envelope period. -/
theorem envelopePeriod_toNat (nrx2 : Byte) : (nrx2.extractLsb' 0 3).toNat = nrx2.toNat % 8 := by
  simp

theorem noiseDivisor_eq (r : BitVec 3) : noiseDivisor r = [8, 16, 32, 48, 64, 80, 96, 112].getD r.toNat 0 := by
  revert r
  decide

theorem noisePeriod_eq (scale : NoiseScale) (nr43 : Byte) : noisePeriod scale nr43 = noiseCycles scale nr43 := by
  have shift : noiseShift nr43 = nr43.toNat / 16 := initialVolume_toNat nr43
  unfold noisePeriod noiseCycles
  rw [shift, noiseDivisor_eq, envelopePeriod_toNat]
  cases scale <;> rfl

/-- R485, R486: the overflow test of a trigger. -/
theorem sweepOverflows_eq (nr10 : Byte) (f : BitVec 11) :
    sweepOverflows nr10 f.toNat = decide (sweepShift nr10 ≠ 0 ∧ 2047 < sweepTarget nr10 f) := by
  simp only [sweepOverflows, sweepTarget, sweepShift_eq, getLsbD_eq_div_mod, Nat.shiftRight_eq_div_pow, Nat.reducePow,
    decide_eq_true_eq]

/-! ### Accesses -/

/-- R47: the table's addresses are those of the sound registers, with the bits that read as 1. -/
theorem soundRegs_at : ∀ e ∈ soundRegs, regionOf (BitVec.ofNat 16 e.1) = .io ∧
    ioReg (BitVec.ofNat 16 e.1) = .sound e.2.1 ∧ soundReadMask e.2.1 = e.2.2 := by
  decide

/-- R47, R48: 0xFF10..0xFF25 are the sound registers and unused addresses. -/
theorem ioRegAt_sound : ∀ n < 0x26, 0x10 ≤ n →
    ioRegAt n = .unused ∨ ∃ e ∈ soundRegs, ioRegAt n = .sound e.2.1 := by
  decide

theorem ApuRegs.get_set (r : ApuRegs) (k j : SoundReg) (v : Byte) : (r.set k v).get j = if j = k then v else r.get j := by
  cases k <;> cases j <;> rfl

section
variable {s : State} {a : Word} {k : SoundReg} (v : Byte) (region : regionOf a = .io) (reg : ioReg a = .sound k)
include region reg

theorem State.read_sound : s.read a = s.apu.regs.get k ||| soundReadMask k := by
  rw [State.read_io region, reg]
  rfl

theorem State.write_sound :
    s.write a v = { s with apu := Apu.writeSound s.config.noiseScale s.apu k v } := by
  rw [State.write_io v region, reg]
  rfl

/-- R481: with the power on a write stores and acts. -/
theorem State.write_sound_on (on : s.apu.power = true) :
    s.write a v =
      { s with
        apu := Apu.soundEffect s.config.noiseScale { s.apu with regs := s.apu.regs.set k v } k v } := by
  rw [State.write_sound v region reg, Apu.writeSound, if_pos on]

/-- R481: with the power off a write is ignored. -/
theorem State.write_sound_off (off : s.apu.power = false) : s.write a v = s := by
  rw [State.write_sound v region reg, Apu.writeSound, off]
  rfl

end

/-! ### What a write may touch -/

/-- `t` is `a` after the effect of a write to `k`: only channels and sweep differ, and each only for its own registers. -/
structure SoundFrame (k : SoundReg) (a t : Apu) : Prop where
  rest  : t = { a with ch1 := t.ch1, ch2 := t.ch2, ch3 := t.ch3, ch4 := t.ch4, sweep := t.sweep }
  ch1   : t.ch1 = a.ch1 ∨ k = .nr11 ∨ k = .nr12 ∨ k = .nr14
  sweep : t.sweep = a.sweep ∨ k = .nr14
  ch2   : t.ch2 = a.ch2 ∨ k = .nr21 ∨ k = .nr22 ∨ k = .nr24
  ch3   : t.ch3 = a.ch3 ∨ k = .nr30 ∨ k = .nr31 ∨ k = .nr34
  ch4   : t.ch4 = a.ch4 ∨ k = .nr41 ∨ k = .nr42 ∨ k = .nr44

theorem SoundFrame.refl (k : SoundReg) (a : Apu) : SoundFrame k a a :=
  ⟨rfl, .inl rfl, .inl rfl, .inl rfl, .inl rfl, .inl rfl⟩

section
variable {k : SoundReg} (a : Apu)

theorem SoundFrame.setCh1 (c : Pulse) (h : k = .nr11 ∨ k = .nr12 ∨ k = .nr14) : SoundFrame k a { a with ch1 := c } :=
  ⟨rfl, .inr h, .inl rfl, .inl rfl, .inl rfl, .inl rfl⟩

theorem SoundFrame.setCh2 (c : Pulse) (h : k = .nr21 ∨ k = .nr22 ∨ k = .nr24) : SoundFrame k a { a with ch2 := c } :=
  ⟨rfl, .inl rfl, .inl rfl, .inr h, .inl rfl, .inl rfl⟩

theorem SoundFrame.setCh3 (c : Wave) (h : k = .nr30 ∨ k = .nr31 ∨ k = .nr34) : SoundFrame k a { a with ch3 := c } :=
  ⟨rfl, .inl rfl, .inl rfl, .inl rfl, .inr h, .inl rfl⟩

theorem SoundFrame.setCh4 (c : Noise) (h : k = .nr41 ∨ k = .nr42 ∨ k = .nr44) : SoundFrame k a { a with ch4 := c } :=
  ⟨rfl, .inl rfl, .inl rfl, .inl rfl, .inl rfl, .inr h⟩

end

theorem SoundFrame.ite {k : SoundReg} {a t u : Apu} {c : Prop} [Decidable c] (ht : SoundFrame k a t)
    (hu : SoundFrame k a u) : SoundFrame k a (if c then t else u) := by
  split <;> assumption

theorem Apu.trigger1_frame (a : Apu) : SoundFrame .nr14 a a.trigger1 := by
  have swept (c : Pulse) (w : Sweep) : SoundFrame .nr14 a { a with ch1 := c, sweep := w } :=
    ⟨rfl, .inr (by decide), .inr rfl, .inl rfl, .inl rfl, .inl rfl⟩
  exact .ite (swept _ _) (.ite (swept _ _) (swept _ _))

/-- R481, R486: the effect of a write, register by register. -/
theorem Apu.soundEffect_frame (scale : NoiseScale) (a : Apu) (k : SoundReg) (v : Byte) :
    SoundFrame k a (Apu.soundEffect scale a k v) := by
  cases k
  case nr11 => exact .setCh1 a _ (by decide)
  case nr12 => exact .ite (.refl _ a) (.setCh1 a _ (by decide))
  case nr14 => exact .ite a.trigger1_frame (.refl _ a)
  case nr21 => exact .setCh2 a _ (by decide)
  case nr22 => exact .ite (.refl _ a) (.setCh2 a _ (by decide))
  case nr24 => exact .ite (.setCh2 a _ (by decide)) (.refl _ a)
  case nr30 => exact .ite (.refl _ a) (.setCh3 a _ (by decide))
  case nr31 => exact .setCh3 a _ (by decide)
  case nr34 => exact .ite (.setCh3 a _ (by decide)) (.refl _ a)
  case nr41 => exact .setCh4 a _ (by decide)
  case nr42 => exact .ite (.refl _ a) (.setCh4 a _ (by decide))
  case nr44 => exact .ite (.setCh4 a _ (by decide)) (.refl _ a)
  all_goals exact .refl _ a

/-! ### Triggers -/

/-- R486: the trigger of channel 1, with the overflow test of its sweep. -/
theorem Apu.trigger1_ch1 (a : Apu) :
    a.trigger1.ch1 =
      { a.ch1.trigger a.regs.nr12 (frequency a.regs.nr13 a.regs.nr14) with
        enabled := dacOn a.regs.nr12 &&
          !sweepOverflows a.regs.nr10 (frequency a.regs.nr13 a.regs.nr14).toNat } := by
  rw [sweepOverflows_eq]
  unfold Apu.trigger1 Apu.sweepOverflowTest
  dsimp only
  split
  next none => simp [none, Pulse.trigger]
  next some =>
    split
    next above => simp [some, above]
    next within => simp [within, Pulse.trigger]

theorem Apu.trigger1_sweep (a : Apu) :
    a.trigger1.sweep =
      { shadow := frequency a.regs.nr13 a.regs.nr14, timer := sweepReload a.regs.nr10
        active := decide (sweepPeriod a.regs.nr10 ≠ 0 ∨ sweepShift a.regs.nr10 ≠ 0) } := by
  have active : decide (sweepPeriod a.regs.nr10 ≠ 0 ∨ sweepShift a.regs.nr10 ≠ 0) =
      (sweepPeriod a.regs.nr10 != 0 || sweepShift a.regs.nr10 != 0) := by
    rw [Bool.eq_iff_iff]
    simp
  rw [active]
  unfold Apu.trigger1 Apu.sweepOverflowTest
  dsimp only
  split
  · rfl
  · split <;> rfl

theorem Pulse.trigger_triggered (c : Pulse) (nrx2 nrx3 nrx4 : Byte) :
    PulseTriggered c (c.trigger nrx2 (frequency nrx3 nrx4)) nrx2 (freq nrx3 nrx4) false :=
  ⟨by simp [Pulse.trigger, dacOn_eq], rfl, by simp only [Pulse.trigger, pulsePeriod, frequency_toNat], rfl,
    initialVolume_toNat nrx2, envelopePeriod_toNat nrx2⟩

theorem pulseTriggered_swept {c t : Pulse} {nrx2 : Byte} {f : Nat} (h : PulseTriggered c t nrx2 f false) (swept : Bool) :
    PulseTriggered c { t with enabled := dacOn nrx2 && !swept } nrx2 f swept := by
  obtain ⟨-, length, timer, duty, volume, envelope⟩ := h
  exact ⟨by rw [dacOn_eq], length, timer, duty, volume, envelope⟩

/-! ### The power switch -/

theorem State.write_nr52 (s : State) (v : Byte) : s.write 0xFF26 v = { s with apu := s.apu.writeNr52 v } := rfl

theorem State.read_nr52 (s : State) : s.read 0xFF26 = s.apu.nr52 := rfl

/-- R490: the power switched off. -/
theorem Apu.writeNr52_off {a : Apu} {v : Byte} (on : a.power = true) (off : v.getLsbD 7 = false) :
    a.writeNr52 v =
      { a with
        power := false, regs := ApuRegs.zero
        ch1 := { a.ch1 with enabled := false }, ch2 := { a.ch2 with enabled := false }
        ch3 := { a.ch3 with enabled := false }, ch4 := { a.ch4 with enabled := false } } := by
  simp only [Apu.writeNr52, on, off]
  rfl

/-- R490: the power switched on. -/
theorem Apu.writeNr52_on {a : Apu} {v : Byte} (off : a.power = false) (on : v.getLsbD 7 = true) :
    a.writeNr52 v = { a with power := true, fsStep := 0, fsAcc := 0 } := by
  simp only [Apu.writeNr52, on, off]
  rfl

end Sys2Proof.Machine
end

section
/-! PROOFS. The length counters over an advance of the APU (R482, R483), and the statement on the sound registers. -/

namespace Sys2Proof.Machine

open Sys2Proof.Claims

/-! ### Length clocks -/

theorem clockLength_fst (on : Bool) (length : Nat) (enabled : Bool) :
    (clockLength on length enabled).1 = lengthAfter true on length := by
  cases on <;> cases length <;> rfl

theorem clockLength_snd (on : Bool) (length : Nat) (enabled : Bool) :
    (clockLength on length enabled).2 = (enabled && !lengthEnds true on length) := by
  rcases length with _ | _ | l <;> cases on <;> cases enabled <;> simp [clockLength, lengthEnds]

/-- `t` is `a` after at most a length clock (`tick` says whether there was one) and at most a sweep clock (`swept`), as far
as the length counters and the enabled flags go: a sweep clock can only switch channel 1 off (R483, R485). -/
structure LengthsClocked (tick swept : Bool) (a t : Apu) : Prop where
  length1  : t.ch1.length = lengthAfter tick (lengthEnabled a.regs.nr14) a.ch1.length
  length2  : t.ch2.length = lengthAfter tick (lengthEnabled a.regs.nr24) a.ch2.length
  length3  : t.ch3.length = lengthAfter tick (lengthEnabled a.regs.nr34) a.ch3.length
  length4  : t.ch4.length = lengthAfter tick (lengthEnabled a.regs.nr44) a.ch4.length
  enabled1 : swept = false →
    t.ch1.enabled = (a.ch1.enabled && !lengthEnds tick (lengthEnabled a.regs.nr14) a.ch1.length)
  enabled2 : t.ch2.enabled = (a.ch2.enabled && !lengthEnds tick (lengthEnabled a.regs.nr24) a.ch2.length)
  enabled3 : t.ch3.enabled = (a.ch3.enabled && !lengthEnds tick (lengthEnabled a.regs.nr34) a.ch3.length)
  enabled4 : t.ch4.enabled = (a.ch4.enabled && !lengthEnds tick (lengthEnabled a.regs.nr44) a.ch4.length)
  survived : t.ch1.enabled = true →
    a.ch1.enabled = true ∧ lengthEnds tick (lengthEnabled a.regs.nr14) a.ch1.length = false

/-- `u` has the length counters of `t` and its enabled flags, but that a sweep clock may have switched channel 1 off. -/
structure LengthsKept (swept : Bool) (t u : Apu) : Prop where
  lengths  : (u.ch1.length, u.ch2.length, u.ch3.length, u.ch4.length) =
    (t.ch1.length, t.ch2.length, t.ch3.length, t.ch4.length)
  enabled1 : swept = false → u.ch1.enabled = t.ch1.enabled
  others   : (u.ch2.enabled, u.ch3.enabled, u.ch4.enabled) = (t.ch2.enabled, t.ch3.enabled, t.ch4.enabled)
  survived : u.ch1.enabled = true → t.ch1.enabled = true

theorem LengthsKept.of_enabled_eq {t u : Apu} {swept : Bool}
    (lengths : (u.ch1.length, u.ch2.length, u.ch3.length, u.ch4.length) =
      (t.ch1.length, t.ch2.length, t.ch3.length, t.ch4.length))
    (enabled : (u.ch1.enabled, u.ch2.enabled, u.ch3.enabled, u.ch4.enabled) =
      (t.ch1.enabled, t.ch2.enabled, t.ch3.enabled, t.ch4.enabled)) : LengthsKept swept t u := by
  obtain ⟨first, others⟩ := Prod.mk.inj enabled
  exact ⟨lengths, fun _ => first, others, fun h => first.symm.trans h⟩

theorem LengthsClocked.refl (a : Apu) : LengthsClocked false false a a := by
  constructor <;> simp [lengthAfter, lengthEnds]

theorem LengthsClocked.then {tick swept swept' : Bool} {a t u : Apu} (h : LengthsClocked tick swept a t)
    (g : LengthsKept swept' t u) : LengthsClocked tick (swept || swept') a u := by
  obtain ⟨lengths, first, others, survived⟩ := g
  simp only [Prod.mk.injEq] at lengths others
  obtain ⟨l1, l2, l3, l4⟩ := lengths
  obtain ⟨e2, e3, e4⟩ := others
  refine ⟨l1.trans h.length1, l2.trans h.length2, l3.trans h.length3, l4.trans h.length4, fun none => ?_,
    e2.trans h.enabled2, e3.trans h.enabled3, e4.trans h.enabled4, fun on => h.survived (survived on)⟩
  obtain ⟨no, no'⟩ := Bool.or_eq_false_iff.mp none
  exact (first no').trans (h.enabled1 no)

/-- What follows without a sweep clock changes nothing. -/
theorem LengthsClocked.thenKept {tick swept : Bool} {a t u : Apu} (h : LengthsClocked tick swept a t)
    (g : LengthsKept false t u) : LengthsClocked tick swept a u :=
  Bool.or_false swept ▸ h.then g

theorem LengthsClocked.setFsStep {tick swept : Bool} {a t : Apu} (h : LengthsClocked tick swept a t) (x : BitVec 3) :
    LengthsClocked tick swept a { t with fsStep := x } := h.thenKept (.of_enabled_eq rfl rfl)

theorem LengthsClocked.setFsAcc {tick swept : Bool} {a t : Apu} (h : LengthsClocked tick swept a t) (x : Nat) :
    LengthsClocked tick swept a { t with fsAcc := x } := h.thenKept (.of_enabled_eq rfl rfl)

/-- R483: the length clock. -/
theorem Apu.clockLengths_clocked (a : Apu) : LengthsClocked true false a a.clockLengths where
  length1 := clockLength_fst ..
  length2 := clockLength_fst ..
  length3 := clockLength_fst ..
  length4 := clockLength_fst ..
  enabled1 _ := clockLength_snd ..
  enabled2 := clockLength_snd ..
  enabled3 := clockLength_snd ..
  enabled4 := clockLength_snd ..
  survived h := by
    have e : a.clockLengths.ch1.enabled = _ := clockLength_snd ..
    simpa [e] using h

/-- R484: the envelopes touch neither a length counter nor an enabled flag. -/
theorem Apu.clockEnvelopes_kept (a : Apu) : LengthsKept false a a.clockEnvelopes := .of_enabled_eq rfl rfl

theorem Apu.sweepOverflowTest_kept (a : Apu) : LengthsKept true a a.sweepOverflowTest := by
  unfold Apu.sweepOverflowTest
  split
  · exact ⟨rfl, nofun, rfl, nofun⟩
  · exact .of_enabled_eq rfl rfl

/-- R485: a sweep clock at most switches channel 1 off. -/
theorem Apu.clockSweep_kept (a : Apu) : LengthsKept true a a.clockSweep := by
  unfold Apu.clockSweep
  dsimp only
  split
  · split
    · split
      · exact ⟨rfl, nofun, rfl, nofun⟩
      · split
        · exact .of_enabled_eq rfl rfl
        · obtain ⟨lengths, -, others, survived⟩ := Apu.sweepOverflowTest_kept (Apu.setSweepFrequency
            { a with sweep := { a.sweep with timer := sweepReload a.regs.nr10 } }
            (BitVec.ofNat 11 (sweepTarget a.regs.nr10 a.sweep.shadow)))
          exact ⟨lengths, nofun, others, survived⟩
    · exact .of_enabled_eq rfl rfl
  · exact .of_enabled_eq rfl rfl

/-! ### The frame sequencer -/

/-- R482: the length clock comes with the even steps of the sequencer, the sweep clock with steps 2 and 6. -/
theorem Apu.clockSequencer_clocked (a : Apu) :
    LengthsClocked (decide (a.fsStep.toNat % 2 = 0)) (decide (a.fsStep.toNat = 2 ∨ a.fsStep.toNat = 6)) a
      a.clockSequencer := by
  have := a.fsStep.isLt
  unfold Apu.clockSequencer
  refine LengthsClocked.setFsStep ?_ _
  split
  next step => rw [step]; exact a.clockLengths_clocked
  next step => rw [step]; exact a.clockLengths_clocked.then (Apu.clockSweep_kept _)
  next step => rw [step]; exact a.clockLengths_clocked
  next step => rw [step]; exact a.clockLengths_clocked.then (Apu.clockSweep_kept _)
  next step => rw [step]; exact (LengthsClocked.refl a).thenKept a.clockEnvelopes_kept
  next zero two four six _ =>
    have odd : ¬ a.fsStep.toNat % 2 = 0 := by
      simp only [imp_false] at zero two four six
      omega
    rw [decide_eq_false odd, decide_eq_false (not_or.mpr ⟨two, six⟩)]
    exact .refl a

/-- R482: the step of the sequencer in an advance of `n` cycles. -/
def Apu.stepsIn (a : Apu) (n : Nat) : Bool := a.power && decide (8192 ≤ a.fsAcc + n)

section
variable {a : Apu} {n : Nat} (acc : a.fsAcc < 8192) (short : a.fsAcc + n < 16384)
include acc short

/-- An advance of less than two sequencer periods makes at most one step. -/
theorem Apu.advanceSequencer_eq :
    a.advanceSequencer n =
      { (if a.stepsIn n then a.clockSequencer else a) with
        fsAcc := if a.power then (a.fsAcc + n) % 8192 else a.fsAcc } := by
  unfold Apu.advanceSequencer Apu.stepsIn
  cases a.power with
  | false => rfl
  | true =>
    by_cases step : 8192 ≤ a.fsAcc + n
    · have one : (a.fsAcc + n) / 8192 = 1 := by omega
      simp [step, one, iterate]
    · have zero : (a.fsAcc + n) / 8192 = 0 := by omega
      simp [step, zero, iterate]

theorem Apu.advanceSequencer_fsStep :
    (a.advanceSequencer n).fsStep = if a.stepsIn n then a.fsStep + 1 else a.fsStep := by
  rw [Apu.advanceSequencer_eq acc short]
  cases a.stepsIn n <;> rfl

theorem Apu.advanceSequencer_fsAcc :
    (a.advanceSequencer n).fsAcc = if a.power then (a.fsAcc + n) % 8192 else a.fsAcc := by
  rw [Apu.advanceSequencer_eq acc short]

theorem Apu.advanceSequencer_clocked :
    LengthsClocked (a.stepsIn n && decide (a.fsStep.toNat % 2 = 0))
      (a.stepsIn n && decide (a.fsStep.toNat = 2 ∨ a.fsStep.toNat = 6)) a (a.advanceSequencer n) := by
  rw [Apu.advanceSequencer_eq acc short]
  refine LengthsClocked.setFsAcc ?_ _
  cases a.stepsIn n with
  | true => exact a.clockSequencer_clocked
  | false => exact .refl a

end

theorem Noise.advance_kept (c : Noise) (scale : NoiseScale) (nr43 : Byte) (n : Nat) :
    (c.advance scale nr43 n).length = c.length ∧ (c.advance scale nr43 n).enabled = c.enabled := by
  unfold Noise.advance
  split <;> exact ⟨rfl, rfl⟩

/-- R487 to R489: the channel timers touch neither a length counter nor an enabled flag. -/
theorem Apu.advanceChannels_kept (a : Apu) (scale : NoiseScale) (n : Nat) :
    LengthsKept false a (a.advanceChannels scale n) := by
  obtain ⟨length, enabled⟩ := a.ch4.advance_kept scale a.regs.nr43 n
  exact .of_enabled_eq (congrArg (fun l => (a.ch1.length, a.ch2.length, a.ch3.length, l)) length)
    (congrArg (fun e => (a.ch1.enabled, a.ch2.enabled, a.ch3.enabled, e)) enabled)

/-- The length counters over an advance: those of the sequencer. -/
theorem State.apuAdvance_clocked {s : State} {n : Nat} (acc : s.apu.fsAcc < 8192) (short : s.apu.fsAcc + n < 16384) :
    LengthsClocked (s.apu.stepsIn n && decide (s.apu.fsStep.toNat % 2 = 0))
      (s.apu.stepsIn n && decide (s.apu.fsStep.toNat = 2 ∨ s.apu.fsStep.toNat = 6)) s.apu (s.apuAdvance n).apu :=
  ((Apu.advanceSequencer_clocked acc short).thenKept (Apu.advanceChannels_kept _ s.config.noiseScale n)).thenKept
    (.of_enabled_eq rfl rfl)

/-! ### The statement's parts -/

section
variable (s : State) (v : Byte)

theorem Apu.nr52_off {a : Apu} (power : a.power = false) (silent : a.silent) : a.nr52 = 0x70 := by
  obtain ⟨off1, off2, off3, off4⟩ := silent
  simp only [Apu.nr52, power, off1, off2, off3, off4]
  decide

/-- R490: the power switched off clears the registers and the enabled flags, and keeps the length counters and memory. -/
theorem State.write_nr52_off (on : s.apu.power = true) (off : v.getLsbD 7 = false) :
    (s.write 0xFF26 v).read 0xFF26 = 0x70 ∧ (s.write 0xFF26 v).apu.regs = ApuRegs.zero ∧
      (s.write 0xFF26 v).apu.ch1.length = s.apu.ch1.length ∧ (s.write 0xFF26 v).apu.ch2.length = s.apu.ch2.length ∧
      (s.write 0xFF26 v).apu.ch3.length = s.apu.ch3.length ∧ (s.write 0xFF26 v).apu.ch4.length = s.apu.ch4.length ∧
      (s.write 0xFF26 v).mem = s.mem := by
  rw [State.write_nr52, Apu.writeNr52_off on off]
  rw [State.read_nr52]
  exact ⟨Apu.nr52_off rfl ⟨rfl, rfl, rfl, rfl⟩, rfl, rfl, rfl, rfl, rfl, rfl⟩

/-- R481: with the power off the addresses 0xFF10..0xFF25 ignore writes. -/
theorem State.write_soundRange_off {a : Word} (off : s.apu.power = false) (lo : 0xFF10 ≤ a.toNat)
    (hi : a.toNat ≤ 0xFF25) : s.write a v = s := by
  have region : regionOf a = .io :=
    regionOf_eq .io (by simp only [Region.bounds]; omega) (by simp only [Region.bounds]; omega)
  obtain unused | ⟨e, -, reg⟩ := ioRegAt_sound (a.toNat % 0x100) (by omega) (by omega)
  · rw [State.write_io v region, show ioReg a = .unused from unused, State.writeIo]
  · exact State.write_sound_off v region reg off

end

/-- R481: a sound register's effect, at one of the table's addresses. -/
theorem State.write_soundReg {s : State} {a : Word} {k : SoundReg} (v : Byte) (on : s.apu.power = true)
    (region : regionOf a = .io := by rfl) (reg : ioReg a = .sound k := by rfl) :
    (s.write a v).apu = Apu.soundEffect s.config.noiseScale { s.apu with regs := s.apu.regs.set k v } k v := by
  rw [State.write_sound_on v region reg on]

/-- R481: with the power on a write to a sound register stores, acts within its frame, and reads with its fixed bits. -/
theorem State.write_soundReg_frame {s : State} {a : Word} {k : SoundReg} (v : Byte) (region : regionOf a = .io)
    (reg : ioReg a = .sound k) (on : s.apu.power = true) :
    (∀ j, (s.write a v).apu.regs.get j = if j = k then v else s.apu.regs.get j) ∧
      SoundFrame k { s.apu with regs := (s.write a v).apu.regs } (s.write a v).apu ∧
      s.write a v = { s with apu := (s.write a v).apu } := by
  have frame := Apu.soundEffect_frame s.config.noiseScale { s.apu with regs := s.apu.regs.set k v } k v
  have regs : (s.write a v).apu.regs = s.apu.regs.set k v := by
    rw [State.write_sound_on v region reg on]
    exact congrArg Apu.regs frame.rest
  rw [regs]
  refine ⟨fun j => ApuRegs.get_set .., ?_, ?_⟩
  · rw [State.write_sound_on v region reg on]
    exact frame
  · rw [State.write_sound_on v region reg on]

section
variable (scale : NoiseScale) (a : Apu) (v : Byte)

/-- R481: a write to NRx2 or NR30 that turns the DAC off disables the channel. -/
theorem Apu.soundEffect_nr12 : (Apu.soundEffect scale a .nr12 v).ch1 =
    { a.ch1 with enabled := a.ch1.enabled && decide (8 ≤ v.toNat) } := by
  rw [← dacOn_eq]
  unfold Apu.soundEffect
  cases dacOn v <;> simp

theorem Apu.soundEffect_nr22 : (Apu.soundEffect scale a .nr22 v).ch2 =
    { a.ch2 with enabled := a.ch2.enabled && decide (8 ≤ v.toNat) } := by
  rw [← dacOn_eq]
  unfold Apu.soundEffect
  cases dacOn v <;> simp

theorem Apu.soundEffect_nr42 : (Apu.soundEffect scale a .nr42 v).ch4 =
    { a.ch4 with enabled := a.ch4.enabled && decide (8 ≤ v.toNat) } := by
  rw [← dacOn_eq]
  unfold Apu.soundEffect
  cases dacOn v <;> simp

theorem Apu.soundEffect_nr30 : (Apu.soundEffect scale a .nr30 v).ch3 =
    { a.ch3 with enabled := a.ch3.enabled && decide (128 ≤ v.toNat) } := by
  rw [← getLsbD_seven]
  unfold Apu.soundEffect
  cases v.getLsbD 7 <;> simp

/-- R486: a write to NRx4 without bit 7 triggers nothing. -/
theorem Apu.soundEffect_untriggered {k : SoundReg} (nrx4 : k = .nr14 ∨ k = .nr24 ∨ k = .nr34 ∨ k = .nr44)
    (low : v.getLsbD 7 = false) : Apu.soundEffect scale a k v = a := by
  have off : ¬ v.getLsbD 7 = true := by rw [low]; decide
  rcases nrx4 with rfl | rfl | rfl | rfl <;> exact if_neg off

end

/-- R481: the loads of the length counters and the DACs that switch off. -/
theorem State.write_lengths_dacs (s : State) (v : Byte) (on : s.apu.power = true) :
    (s.write 0xFF11 v).apu.ch1 = { s.apu.ch1 with length := 64 - v.toNat % 64 } ∧
      (s.write 0xFF16 v).apu.ch2 = { s.apu.ch2 with length := 64 - v.toNat % 64 } ∧
      (s.write 0xFF20 v).apu.ch4 = { s.apu.ch4 with length := 64 - v.toNat % 64 } ∧
      (s.write 0xFF1B v).apu.ch3 = { s.apu.ch3 with length := 256 - v.toNat } ∧
      (s.write 0xFF12 v).apu.ch1 = { s.apu.ch1 with enabled := s.apu.ch1.enabled && decide (8 ≤ v.toNat) } ∧
      (s.write 0xFF17 v).apu.ch2 = { s.apu.ch2 with enabled := s.apu.ch2.enabled && decide (8 ≤ v.toNat) } ∧
      (s.write 0xFF21 v).apu.ch4 = { s.apu.ch4 with enabled := s.apu.ch4.enabled && decide (8 ≤ v.toNat) } ∧
      (s.write 0xFF1A v).apu.ch3 = { s.apu.ch3 with enabled := s.apu.ch3.enabled && decide (128 ≤ v.toNat) } := by
  rw [State.write_soundReg (a := 0xFF11) (k := .nr11) v on, State.write_soundReg (a := 0xFF16) (k := .nr21) v on,
    State.write_soundReg (a := 0xFF20) (k := .nr41) v on, State.write_soundReg (a := 0xFF1B) (k := .nr31) v on,
    State.write_soundReg (a := 0xFF12) (k := .nr12) v on, State.write_soundReg (a := 0xFF17) (k := .nr22) v on,
    State.write_soundReg (a := 0xFF21) (k := .nr42) v on, State.write_soundReg (a := 0xFF1A) (k := .nr30) v on,
    ← and_0x3F_toNat]
  exact ⟨rfl, rfl, rfl, rfl, Apu.soundEffect_nr12 .., Apu.soundEffect_nr22 .., Apu.soundEffect_nr42 ..,
    Apu.soundEffect_nr30 ..⟩

/-- R486: without bit 7 a write to NRx4 leaves its channel alone. -/
theorem State.write_untriggered (s : State) (v : Byte) (on : s.apu.power = true) (low : v.toNat < 128) :
    (s.write 0xFF14 v).apu.ch1 = s.apu.ch1 ∧ (s.write 0xFF14 v).apu.sweep = s.apu.sweep ∧
      (s.write 0xFF19 v).apu.ch2 = s.apu.ch2 ∧ (s.write 0xFF1E v).apu.ch3 = s.apu.ch3 ∧
      (s.write 0xFF23 v).apu.ch4 = s.apu.ch4 := by
  have low : v.getLsbD 7 = false := by rw [getLsbD_seven, decide_eq_false (by omega)]
  rw [State.write_soundReg (a := 0xFF14) (k := .nr14) v on, State.write_soundReg (a := 0xFF19) (k := .nr24) v on,
    State.write_soundReg (a := 0xFF1E) (k := .nr34) v on, State.write_soundReg (a := 0xFF23) (k := .nr44) v on,
    Apu.soundEffect_untriggered _ _ v (by decide) low, Apu.soundEffect_untriggered _ _ v (by decide) low,
    Apu.soundEffect_untriggered _ _ v (by decide) low, Apu.soundEffect_untriggered _ _ v (by decide) low]
  exact ⟨rfl, rfl, rfl, rfl, rfl⟩

section
variable (s : State) (v : Byte) (on : s.apu.power = true) (high : 128 ≤ v.toNat)
include on high

/-- R486: with bit 7 a write to NR14 triggers channel 1. -/
theorem State.write_nr14 : (s.write 0xFF14 v).apu = Apu.trigger1 { s.apu with regs := s.apu.regs.set .nr14 v } := by
  rw [State.write_soundReg (a := 0xFF14) (k := .nr14) v on]
  exact if_pos (by rw [getLsbD_seven, decide_eq_true high])

theorem State.write_nr24 : (s.write 0xFF19 v).apu = Apu.trigger2 { s.apu with regs := s.apu.regs.set .nr24 v } := by
  rw [State.write_soundReg (a := 0xFF19) (k := .nr24) v on]
  exact if_pos (by rw [getLsbD_seven, decide_eq_true high])

theorem State.write_nr34 : (s.write 0xFF1E v).apu = Apu.trigger3 { s.apu with regs := s.apu.regs.set .nr34 v } := by
  rw [State.write_soundReg (a := 0xFF1E) (k := .nr34) v on]
  exact if_pos (by rw [getLsbD_seven, decide_eq_true high])

theorem State.write_nr44 : (s.write 0xFF23 v).apu =
    Apu.trigger4 s.config.noiseScale { s.apu with regs := s.apu.regs.set .nr44 v } := by
  rw [State.write_soundReg (a := 0xFF23) (k := .nr44) v on]
  exact if_pos (by rw [getLsbD_seven, decide_eq_true high])

theorem State.write_nr14_triggered :
    PulseTriggered s.apu.ch1 (s.write 0xFF14 v).apu.ch1 s.apu.regs.nr12 (freq s.apu.regs.nr13 v)
      (sweepOverflows s.apu.regs.nr10 (freq s.apu.regs.nr13 v)) := by
  rw [State.write_nr14 s v on high, Apu.trigger1_ch1, frequency_toNat]
  exact pulseTriggered_swept (Pulse.trigger_triggered s.apu.ch1 s.apu.regs.nr12 s.apu.regs.nr13 v) _

theorem State.write_nr14_sweep :
    (s.write 0xFF14 v).apu.sweep =
      { shadow := BitVec.ofNat 11 (freq s.apu.regs.nr13 v)
        timer := if s.apu.regs.nr10.toNat / 16 % 8 = 0 then 8 else s.apu.regs.nr10.toNat / 16 % 8
        active := decide (s.apu.regs.nr10.toNat / 16 % 8 ≠ 0 ∨ s.apu.regs.nr10.toNat % 8 ≠ 0) } := by
  rw [State.write_nr14 s v on high, Apu.trigger1_sweep, frequency_eq, sweepReload, sweepPeriod_eq, sweepShift_eq]
  rfl

theorem State.write_nr34_triggered :
    (s.write 0xFF1E v).apu.ch3 =
      { enabled := decide (128 ≤ s.apu.regs.nr30.toNat)
        length := if s.apu.ch3.length = 0 then 256 else s.apu.ch3.length
        freqTimer := (2048 - freq s.apu.regs.nr33 v) * 2
        wavePos := 0 } := by
  rw [State.write_nr34 s v on high, ← getLsbD_seven, ← frequency_toNat]
  rfl

theorem State.write_nr44_triggered :
    (s.write 0xFF23 v).apu.ch4 =
      { enabled := decide (8 ≤ s.apu.regs.nr42.toNat)
        length := if s.apu.ch4.length = 0 then 64 else s.apu.ch4.length
        freqTimer := noiseCycles s.config.noiseScale s.apu.regs.nr43
        lfsr := 0x7FFF
        volume := BitVec.ofNat 4 (s.apu.regs.nr42.toNat / 16)
        envTimer := s.apu.regs.nr42.toNat % 8 } := by
  rw [State.write_nr44 s v on high, ← dacOn_eq, ← noisePeriod_eq, ← initialVolume_toNat, ← envelopePeriod_toNat,
    BitVec.ofNat_toNat, BitVec.setWidth_eq]
  rfl

end

/-- Settles O54: a write to a sound register is its effect, which keeps to its frame; an advance makes at most one step of
the sequencer. -/
theorem apuPower : Obligations.ApuPower := by
  refine ⟨State.write_nr52_off, fun s v off on => ?_, fun s a v => s.write_soundRange_off v, fun s a k mask v mem => ?_,
    fun s v on => ?_, fun s v on low => ?_, fun s v on high => ?_, fun s n acc short => ?_⟩
  · rw [State.write_nr52, Apu.writeNr52_on off on]
  · obtain ⟨region, reg, bits⟩ := soundRegs_at _ mem
    refine ⟨by rw [State.read_sound region reg, bits], fun on => ?_⟩
    obtain ⟨stored, frame, rest⟩ := State.write_soundReg_frame v region reg on
    exact ⟨stored, rest.trans (congrArg (fun x : Apu => { s with apu := x }) frame.rest), frame.ch1, frame.sweep, frame.ch2,
      frame.ch3, frame.ch4⟩
  · exact s.write_lengths_dacs v on
  · exact s.write_untriggered v on low
  · refine ⟨s.write_nr14_triggered v on high, s.write_nr14_sweep v on high, ?_, s.write_nr34_triggered v on high,
      s.write_nr44_triggered v on high⟩
    rw [State.write_nr24 s v on high]
    exact Pulse.trigger_triggered s.apu.ch2 s.apu.regs.nr22 s.apu.regs.nr23 v
  · simp only [← lengthEnabled_eq]
    obtain ⟨length1, length2, length3, length4, enabled1, enabled2, enabled3, enabled4, survived⟩ :=
      State.apuAdvance_clocked acc short
    refine ⟨Apu.advanceSequencer_fsStep acc short, Apu.advanceSequencer_fsAcc acc short, length1, length2, length3, length4,
      enabled2, enabled3, enabled4, fun unswept => enabled1 ?_, survived⟩
    rw [decide_eq_false (not_or.mpr unswept), Bool.and_false]

end Sys2Proof.Machine
end

section
/-! PROOFS. The internal memories on the bus: reads, stores, the write lock, echo RAM and the OAM DMA (R74, R76 to
R79, R82, R92). -/

namespace Sys2Proof.Machine

/-! ### What a read depends on -/

theorem State.read_mem {s : State} {a : Word}
    (h : regionOf a = .vram ∨ regionOf a = .wram ∨ regionOf a = .oam ∨ regionOf a = .hram) :
    s.read a = s.mem.read a.toNat := by
  obtain h | h | h | h := h <;> simp only [State.read, h]

theorem echoed_toNat (a : Word) : (echoed a).toNat = if regionOf a = .echo then a.toNat - 0x2000 else a.toNat := by
  unfold echoed
  split
  next h =>
    have := (regionOf_eq_iff a .echo).mp h
    simp only [Region.bounds] at this
    bv_omega
  next => rfl

theorem echoed_of_ne {a : Word} (h : regionOf a ≠ .echo) : echoed a = a := if_neg h

/-- R78: what echo RAM shows ends at 0xDDFF. -/
theorem echoed_cases (a : Word) : (echoed a).toNat = a.toNat ∨ (echoed a).toNat < 0xDE00 := by
  rw [echoed_toNat]
  split
  next h =>
    have bounds := (regionOf_eq_iff a .echo).mp h
    simp only [Region.bounds] at bounds
    omega
  next => exact .inl rfl

/-- R87: a read is given by the memory byte behind the address, the cartridge, IE and, in the I/O page, the register. -/
theorem State.read_congr {s t : State} {b : Word} (mem : t.mem.read (echoed b).toNat = s.mem.read (echoed b).toNat)
    (cart : regionOf b = .rom ∨ regionOf b = .extRam → t.cart = s.cart) (ie : regionOf b = .ie → t.irq.ie = s.irq.ie)
    (io : regionOf b = .io → t.readIo (ioReg b) b = s.readIo (ioReg b) b) : t.read b = s.read b := by
  rw [echoed_toNat] at mem
  unfold State.read
  cases h : regionOf b with
  | rom => simp only [cart (.inl h)]
  | extRam => simp only [cart (.inr h)]
  | io => exact io h
  | ie => simp only [Irq.ieByte, ie h]
  | unusable => rfl
  | vram | wram | echo | oam | hram => simpa [h] using mem

/-! ### Stores -/

theorem State.readIo_store_other (s : State) {n : Nat} {b : Word} (q : IoReg) (v : Byte) (h : b.toNat ≠ n) :
    (s.store n v).readIo q b = s.readIo q b := by
  cases q
  case waveRam => exact Memory.read_write_other _ v h
  all_goals rfl

theorem State.read_store_other (s : State) {n : Nat} {b : Word} (v : Byte) (h : (echoed b).toNat ≠ n) :
    (s.store n v).read b = s.read b := by
  refine State.read_congr (Memory.read_write_other _ v h) (fun _ => rfl) (fun _ => rfl) fun io => ?_
  rw [echoed_of_ne (by simp [io])] at h
  exact s.readIo_store_other _ v h

theorem State.read_store_same {s : State} {a : Word} (v : Byte)
    (h : regionOf a = .vram ∨ regionOf a = .wram ∨ regionOf a = .oam ∨ regionOf a = .hram) :
    (s.store a.toNat v).read a = v := by
  rw [State.read_mem h, State.store_mem, Memory.read_write_same]

/-- R77, R82: work RAM and high RAM take every write. -/
theorem State.write_ram {s : State} {a : Word} (v : Byte) (h : regionOf a = .wram ∨ regionOf a = .hram) :
    s.write a v = s.store a.toNat v := by
  obtain h | h := h <;> simp only [State.write, h]

/-- R76: VRAM and OAM take a write when they are not locked. -/
theorem State.write_video {s : State} {a : Word} (v : Byte) (h : regionOf a = .vram ∨ regionOf a = .oam) :
    s.write a v = if s.vramLocked then s else s.store a.toNat v := by
  obtain h | h := h <;> simp only [State.write, h]

theorem State.vramLocked_iff (s : State) :
    s.vramLocked = true ↔ s.config.enforceVramLock = true ∧ s.ppu.lcdc.getLsbD 7 = true ∧
      (s.ppu.mode = .oamScan ∨ s.ppu.mode = .drawing) := by
  simp [State.vramLocked, Ppu.lcdOn, and_assoc]

/-- Settles O42: the lock decides between no effect and a store. -/
theorem vramLock : Obligations.VramLock := by
  intro s a v region
  have internal : regionOf a = .vram ∨ regionOf a = .wram ∨ regionOf a = .oam ∨ regionOf a = .hram := by tauto
  refine ⟨State.read_mem internal, ?_⟩
  rw [State.write_video v region]
  split
  next locked => exact if_pos (s.vramLocked_iff.mpr locked)
  next unlocked =>
    rw [if_neg (unlocked ∘ s.vramLocked_iff.mp)]
    exact ⟨State.read_store_same v internal, rfl⟩

/-! ### Echo RAM -/

theorem regionOf_sub_of_echo {a : Word} (h : regionOf a = .echo) :
    (a - 0x2000).toNat = a.toNat - 0x2000 ∧ regionOf (a - 0x2000) = .wram := by
  have bounds := (regionOf_eq_iff a .echo).mp h
  simp only [Region.bounds] at bounds
  have sub : (a - 0x2000).toNat = a.toNat - 0x2000 := by bv_omega
  exact ⟨sub, regionOf_eq .wram (by simp only [Region.bounds]; omega) (by simp only [Region.bounds]; omega)⟩

theorem State.read_echo {s : State} {a : Word} (h : regionOf a = .echo) : s.read a = s.read (a - 0x2000) := by
  obtain ⟨sub, wram⟩ := regionOf_sub_of_echo h
  simp only [State.read, h, wram, sub]

theorem State.write_echo {s : State} {a : Word} (v : Byte) (h : regionOf a = .echo) :
    s.write a v = s.write (a - 0x2000) v := by
  obtain ⟨sub, wram⟩ := regionOf_sub_of_echo h
  simp only [State.write, h, wram, sub]

/-- Settles O43: work RAM and high RAM are stores, echo RAM is the work RAM 0x2000 below, which ends at 0xDDFF. -/
theorem plainMemory : Obligations.PlainMemory := by
  have stored (s : State) (a : Word) (v : Byte) (h : regionOf a = .wram ∨ regionOf a = .hram) :
      (s.write a v).read a = v ∧ s.write a v = { s with mem := (s.write a v).mem } := by
    rw [State.write_ram v h]
    exact ⟨State.read_store_same v (by tauto), rfl⟩
  refine ⟨fun s a v range => stored s a v ?_, fun s a v lo hi => ?_, fun s a b v lo hi other => ?_⟩
  · exact range.imp (fun h => regionOf_eq .wram h.1 h.2) (fun h => regionOf_eq .hram h.1 h.2)
  · have echo : regionOf a = .echo := regionOf_eq .echo lo hi
    refine ⟨State.read_echo echo, State.write_echo v echo, ?_⟩
    rw [State.read_echo echo]
    exact (stored s _ v (.inl (regionOf_sub_of_echo echo).2)).1
  · have wram : regionOf a = .wram := regionOf_eq .wram (by simp only [Region.bounds]; omega) hi
    rw [State.write_ram v (.inl wram)]
    have distinct : b.toNat ≠ a.toNat := fun same => other (BitVec.eq_of_toNat_eq same)
    have := echoed_cases b
    exact s.read_store_other v (by omega)

/-! ### OAM DMA -/

/-- R92: the copy changes the memory alone. -/
theorem State.oamDma_eq (s : State) (v : Byte) (k : Nat) :
    State.oamDma s v k = { s with mem := (State.oamDma s v k).mem } := by
  induction k generalizing s with
  | zero => rfl
  | succ k ih => exact ih _

/-- R92: the last `k` copies reach only the last `k` bytes of OAM. -/
theorem State.oamDma_mem_other (s : State) (v : Byte) {k n : Nat} (h : n < 0xFE00 + (160 - k) ∨ 0xFEA0 ≤ n) :
    (State.oamDma s v k).mem.read n = s.mem.read n := by
  induction k generalizing s with
  | zero => rfl
  | succ k ih => exact (ih _ (by omega)).trans (Memory.read_write_other _ _ (by omega))

theorem dmaSource_toNat (v : Byte) {i : Nat} (h : i < 160) :
    (wordOf v (BitVec.ofNat 8 i)).toNat = 256 * v.toNat + i := by
  rw [wordOf_toNat, BitVec.toNat_ofNat, Nat.mod_eq_of_lt (by omega)]

/-- R92: the source of byte `i` is not an OAM byte that another byte's copy has written. -/
theorem dmaSource_ne {v : Byte} {i j : Nat} (hi : i < 160) (hj : j < 160) (h : i ≠ j) :
    (echoed (wordOf v (BitVec.ofNat 8 i))).toNat ≠ 0xFE00 + j := by
  have shown := echoed_cases (wordOf v (BitVec.ofNat 8 i))
  rw [dmaSource_toNat v hi] at shown
  omega

/-- R92: the last `k` bytes of OAM after their copies: byte `i` is what a read of its source gave before them. -/
theorem State.oamDma_mem_copied (s : State) (v : Byte) {k i : Nat} (hk : k ≤ 160) (lo : 160 - k ≤ i) (hi : i < 160) :
    (State.oamDma s v k).mem.read (0xFE00 + i) = s.read (wordOf v (BitVec.ofNat 8 i)) := by
  induction k generalizing s with
  | zero => omega
  | succ k ih =>
    unfold State.oamDma
    by_cases newest : i = 159 - k
    · rw [State.oamDma_mem_other _ v (.inl (by omega)), State.store_mem, newest, Memory.read_write_same]
    · rw [ih _ (by omega) (by omega)]
      exact s.read_store_other _ (dmaSource_ne hi (by omega) newest)

theorem State.write_dma (s : State) (v : Byte) : s.write 0xFF46 v = State.oamDma { s with dma := v } v 160 := rfl

/-- Settles O44: the copy's frame, its 160 bytes and the bytes it leaves alone. -/
theorem oamDma : Obligations.OamDma := by
  intro s v
  rw [State.write_dma]
  have frame := State.oamDma_eq { s with dma := v } v 160
  refine ⟨by rw [frame], frame, fun i hi => ?_, fun n outside => ?_⟩
  · have target : (BitVec.ofNat 16 (0xFE00 + i)).toNat = 0xFE00 + i := by
      rw [BitVec.toNat_ofNat]
      omega
    have source : BitVec.ofNat 16 (v.toNat * 256 + i) = wordOf v (BitVec.ofNat 8 i) := by
      apply BitVec.eq_of_toNat_eq
      rw [dmaSource_toNat v hi, BitVec.toNat_ofNat]
      omega
    have oam : regionOf (BitVec.ofNat 16 (0xFE00 + i)) = .oam :=
      regionOf_eq .oam (by simp only [Region.bounds]; omega) (by simp only [Region.bounds]; omega)
    rw [State.read_mem (.inr (.inr (.inl oam))), target, source]
    exact State.oamDma_mem_copied _ v (by omega) (by omega) hi
  · exact State.oamDma_mem_other _ v (by omega)

end Sys2Proof.Machine
end

section
/-! PROOFS. The cartridge on the bus: what the external-RAM window shows, what a write leaves of the cartridge, and that
every step keeps it legal (R73, R75, R106 to R131). -/

namespace Sys2Proof.Machine

/-! ### The external-RAM window -/

/-- What the external-RAM window shows: nothing, one bank of the RAM, MBC2's nibbles, or an RTC register (R106, R112,
R115, R116, R123, R128). -/
inductive Cart.Window (k : Cart) : Prop where
  | closed (h : ∀ a, k.ramTarget a = .none)
  | bank (base : Nat) (controller : ∀ r, k.mbc ≠ .mbc2 r) (fits : base + 0x2000 ≤ k.extRamSize)
      (h : ∀ a, k.ramTarget a = .byte (base + (a - 0xA000)))
  | nibbles (r : Mbc2) (controller : k.mbc = .mbc2 r)
      (h : ∀ a, k.ramTarget a = if a < 0xA200 then .nibble (a - 0xA000) else .none)
  | clock (r : Mbc3) (controller : k.mbc = .mbc3 r) (h : ∀ a, k.ramTarget a = .rtc r.select)

/-- R105, R112: a banked window shows a bank inside the RAM, or nothing where there is no RAM. -/
theorem Cart.window_of_bankedRam {k : Cart} {n : Nat} (controller : ∀ r, k.mbc ≠ .mbc2 r)
    (h : ∀ a, k.ramTarget a = k.bankedRam n a) : k.Window := by
  by_cases none : k.ramBanks = 0
  · exact .closed fun a => by rw [h, Cart.bankedRam, if_pos none]
  · have inside : n % k.ramBanks < k.ramBanks := Nat.mod_lt _ (Nat.pos_of_ne_zero none)
    have size : k.extRamSize = k.ramBanks * 0x2000 := by
      unfold Cart.extRamSize
      split
      next r mbc2 => exact absurd mbc2 (controller r)
      next => rfl
    exact .bank (n % k.ramBanks * 0x2000) controller (by omega) fun a => by rw [h, Cart.bankedRam, if_neg none]

theorem Cart.window (k : Cart) : k.Window := by
  cases mbc : k.mbc with
  | noMbc => exact .closed fun a => by simp only [Cart.ramTarget, mbc]
  | mbc1 r =>
    by_cases on : r.ramEnable = true
    · exact Cart.window_of_bankedRam (by simp [mbc]) fun a => by simp only [Cart.ramTarget, mbc, if_pos on]; rfl
    · exact .closed fun a => by simp only [Cart.ramTarget, mbc, if_neg on]
  | mbc2 r =>
    by_cases on : r.ramEnable = true
    · exact .nibbles r mbc fun a => by simp only [Cart.ramTarget, mbc, on, true_and]
    · exact .closed fun a => by simp only [Cart.ramTarget, mbc, if_neg fun h : _ ∧ _ => on h.1]
  | mbc3 r =>
    by_cases on : r.ramEnable = true
    · by_cases bank : r.select.toNat < 4
      · exact Cart.window_of_bankedRam (by simp [mbc]) fun a => by
          simp only [Cart.ramTarget, mbc, if_pos on, if_pos bank]; rfl
      · by_cases rtc : 0x08 ≤ r.select.toNat ∧ r.select.toNat ≤ 0x0C
        · exact .clock r mbc fun a => by simp only [Cart.ramTarget, mbc, if_pos on, if_neg bank, if_pos rtc]
        · exact .closed fun a => by simp only [Cart.ramTarget, mbc, if_pos on, if_neg bank, if_neg rtc]
    · exact .closed fun a => by simp only [Cart.ramTarget, mbc, if_neg on]
  | mbc5 r =>
    by_cases on : r.ramEnable = true
    · exact Cart.window_of_bankedRam (by simp [mbc]) fun a => by simp only [Cart.ramTarget, mbc, if_pos on]; rfl
    · exact .closed fun a => by simp only [Cart.ramTarget, mbc, if_neg on]

section
variable {k : Cart} {a : Nat}

theorem Cart.readRam_none (h : k.ramTarget a = .none) : k.readRam a = 0xFF := by
  simp only [Cart.readRam, h]

theorem Cart.readRam_byte {o : Nat} (h : k.ramTarget a = .byte o) : k.readRam a = k.extRam.read o := by
  simp only [Cart.readRam, h]

theorem Cart.readRam_nibble {o : Nat} (h : k.ramTarget a = .nibble o) : k.readRam a = 0xF0 ||| k.extRam.read o := by
  simp only [Cart.readRam, h]

theorem Cart.readRam_rtc {r : Mbc3} {select : Byte} (controller : k.mbc = .mbc3 r) (h : k.ramTarget a = .rtc select) :
    k.readRam a = r.latched.read select := by
  simp only [Cart.readRam, h, Mbc.readRtc, controller]

variable (v : Byte)

theorem Cart.writeRam_none (h : k.ramTarget a = .none) : k.writeRam a v = k := by
  simp only [Cart.writeRam, h]

theorem Cart.writeRam_byte {o : Nat} (h : k.ramTarget a = .byte o) :
    k.writeRam a v = { k with extRam := k.extRam.write o v } := by
  simp only [Cart.writeRam, h]

theorem Cart.writeRam_nibble {o : Nat} (h : k.ramTarget a = .nibble o) :
    k.writeRam a v = { k with extRam := k.extRam.write o (v &&& 0x0F) } := by
  simp only [Cart.writeRam, h]

theorem Cart.writeRam_rtc {r : Mbc3} {select : Byte} (controller : k.mbc = .mbc3 r) (h : k.ramTarget a = .rtc select) :
    k.writeRam a v = { k with mbc := .mbc3 { r with live := r.live.write select v } } := by
  simp only [Cart.writeRam, h, Mbc.writeRtc, controller]

end

/-! ### Accesses to the cartridge -/

section
variable {s : State} {k : Cart} {a : Word} (v : Byte) (cart : s.cart = some k)
include cart

theorem State.read_cartRom (h : regionOf a = .rom) : s.read a = k.readRom a.toNat := by
  simp only [State.read, h, cart]

theorem State.write_cartRom (h : regionOf a = .rom) : s.write a v = { s with cart := some (k.control a.toNat v) } := by
  simp only [State.write, h, cart, Option.map_some]

theorem State.read_cartRam (h : regionOf a = .extRam) : s.read a = k.readRam a.toNat := by
  simp only [State.read, h, cart]

theorem State.write_cartRam (h : regionOf a = .extRam) :
    s.write a v = { s with cart := some (k.writeRam a.toNat v) } := by
  simp only [State.write, h, cart, Option.map_some]

end

/-! ### What a write leaves of the cartridge -/

/-- What no access changes: the image, the header fields and the battery (R73, R101). -/
def Cart.header (k : Cart) : RomImage × List Byte × Byte × Nat × Nat × Bool :=
  (k.rom, k.title, k.typeCode, k.romBanks, k.ramBanks, k.battery)

theorem Cart.writeRam_header (k : Cart) (a : Nat) (v : Byte) : (k.writeRam a v).header = k.header := by
  unfold Cart.writeRam
  split <;> rfl

/-- R81, R92: a register write leaves the cartridge, IE and, but for the OAM DMA and the wave RAM, the memory alone. -/
theorem State.writeIo_rest (s : State) (r : IoReg) (a : Word) (v : Byte) :
    (s.writeIo r a v).cart = s.cart ∧ (s.writeIo r a v).irq.ie = s.irq.ie ∧
      (r ≠ .dma → r ≠ .waveRam → (s.writeIo r a v).mem = s.mem) := by
  have viaStat (p : Ppu) : (State.evalStat { s with ppu := p }).cart = s.cart ∧
      (State.evalStat { s with ppu := p }).irq.ie = s.irq.ie ∧
      (r ≠ .dma → r ≠ .waveRam → (State.evalStat { s with ppu := p }).mem = s.mem) :=
    have step := State.evalStat_deviceStep { s with ppu := p }
    ⟨by rw [step.rest], step.ie, fun _ _ => State.evalStat_mem _⟩
  cases r
  case lcdc =>
    unfold State.writeIo State.writeLcdc
    dsimp only
    split
    · exact ⟨rfl, rfl, fun _ _ => rfl⟩
    · split <;> exact viaStat _
  case stat => exact viaStat _
  case lyc => exact viaStat _
  case ly => exact viaStat _
  case dma =>
    unfold State.writeIo State.writeDma
    rw [State.oamDma_eq]
    exact ⟨rfl, rfl, fun dma => absurd rfl dma⟩
  case waveRam => exact ⟨rfl, rfl, fun _ wave => absurd rfl wave⟩
  all_goals exact ⟨rfl, rfl, fun _ _ => rfl⟩

/-- R73, R75: a write changes the cartridge only by a control write or a write in the external-RAM window. -/
theorem State.write_cart (s : State) (a : Word) (v : Byte) :
    (s.write a v).cart = s.cart ∨
      (s.write a v).cart = s.cart.map (fun k => k.control a.toNat v) ∨
      (regionOf a = .extRam ∧ (s.write a v).cart = s.cart.map fun k => k.writeRam a.toNat v) := by
  unfold State.write
  cases region : regionOf a with
  | rom => exact .inr (.inl rfl)
  | extRam => exact .inr (.inr ⟨rfl, rfl⟩)
  | vram | oam =>
    dsimp only
    split <;> exact .inl rfl
  | io => exact .inl (s.writeIo_rest _ a v).1
  | wram | echo | hram | ie | unusable => exact .inl rfl

/-- R73: no write changes the image or the header. -/
theorem State.write_header (s : State) (a : Word) (v : Byte) :
    (s.write a v).cart.map Cart.header = s.cart.map Cart.header := by
  obtain same | control | ⟨-, ram⟩ := s.write_cart a v
  · rw [same]
  · rw [control, Option.map_map]
    rfl
  · rw [ram, Option.map_map]
    exact Option.map_congr fun k _ => k.writeRam_header a.toNat v

/-- Settles O31: the CPU's side is untouched by every write, and the header is kept by both writes to the cartridge. -/
theorem storeLeavesCpu : Obligations.StoreLeavesCpu := by
  intro s a v
  obtain ⟨regs, cpu, config, frameAcc, frameTotal, buttons⟩ := s.write_untouched a v
  exact ⟨regs, cpu, config, buttons, frameAcc, frameTotal, s.write_header a v⟩

/-! ### The legal cartridge -/

theorem ite_zero_ne_zero {w : Nat} (x : BitVec w) (one : 1#w ≠ 0#w) : (if x = 0#w then 1#w else x) ≠ 0#w := by
  split <;> assumption

/-- A control write keeps the bank registers that are never 0 so (R107, R113, R118). -/
theorem Mbc.control_bankOk {m : Mbc} (a : Nat) (v : Byte) (h : m.BankOk) : (m.control a v).BankOk := by
  cases m with
  | noMbc => trivial
  | mbc1 r =>
    show (r.control a v).bankLow ≠ 0
    unfold Mbc1.control
    split
    · exact h
    · split
      · exact ite_zero_ne_zero _ (by decide)
      · split <;> exact h
  | mbc2 r =>
    show (r.control a v).romBank ≠ 0
    unfold Mbc2.control
    split
    · split
      · exact ite_zero_ne_zero _ (by decide)
      · exact h
    · exact h
  | mbc3 r =>
    show (r.control a v).romBank ≠ 0
    unfold Mbc3.control
    split
    · exact h
    · split
      · exact ite_zero_ne_zero _ (by decide)
      · split <;> exact h
  | mbc5 r => trivial

/-- A control write changes registers of the same controller, so neither the size of the RAM nor what it holds. -/
theorem Cart.control_ok {k : Cart} (a : Nat) (v : Byte) (h : k.Ok) : (k.control a v).Ok := by
  refine ⟨h.rom, h.ram, fun cell hc => ?_, Mbc.control_bankOk a v h.bank⟩
  have inside := h.inside cell hc
  unfold Cart.extRamSize Mbc.HoldsByte at inside ⊢
  unfold Cart.control
  cases mbc : k.mbc <;> rw [mbc] at inside <;> exact inside

/-- A byte stored inside the RAM, of a kind it holds, keeps the cartridge legal. -/
theorem Cart.store_ok {k : Cart} {o : Nat} {v : Byte} (h : k.Ok) (inside : o < k.extRamSize)
    (holds : k.mbc.HoldsByte v) : Cart.Ok { k with extRam := k.extRam.write o v } := by
  refine ⟨h.rom, Memory.wf_write o v h.ram, fun cell hc => ?_, h.bank⟩
  obtain ⟨rfl, -⟩ | ⟨hc, -⟩ := Memory.mem_write hc
  · exact ⟨inside, holds⟩
  · exact h.inside cell hc

theorem Cart.writeRam_ok {k : Cart} {a : Nat} (v : Byte) (h : k.Ok) (hi : a < 0xC000) : (k.writeRam a v).Ok := by
  cases k.window with
  | closed target => rwa [Cart.writeRam_none v (target a)]
  | bank base controller fits target =>
    rw [Cart.writeRam_byte v (target a)]
    refine Cart.store_ok h (by omega) ?_
    unfold Mbc.HoldsByte
    split
    next r mbc2 => exact absurd mbc2 (controller r)
    next => trivial
  | nibbles r controller target =>
    have reached := target a
    split at reached
    next low =>
      rw [Cart.writeRam_nibble v reached]
      refine Cart.store_ok h ?_ ?_
      · simp only [Cart.extRamSize, controller]
        omega
      · simp only [Mbc.HoldsByte, controller]
        exact Nat.lt_of_le_of_lt Nat.and_le_right (by decide)
    next => rwa [Cart.writeRam_none v reached]
  | clock r controller target =>
    rw [Cart.writeRam_rtc v controller (target a)]
    obtain ⟨rom, ram, inside, bank⟩ := h
    unfold Cart.extRamSize Mbc.HoldsByte at inside
    unfold Mbc.BankOk at bank
    rw [controller] at inside bank
    exact ⟨rom, ram, inside, bank⟩

theorem State.write_cartOk {s : State} (a : Word) (v : Byte) (h : s.CartOk) : (s.write a v).CartOk := by
  intro k hk
  obtain same | control | ⟨region, ram⟩ := s.write_cart a v
  · exact h k (same ▸ hk)
  · rw [control] at hk
    obtain ⟨k', hk', rfl⟩ := Option.map_eq_some_iff.mp hk
    exact Cart.control_ok _ v (h k' hk')
  · rw [ram] at hk
    obtain ⟨k', hk', rfl⟩ := Option.map_eq_some_iff.mp hk
    exact Cart.writeRam_ok v (h k' hk') ((regionOf_eq_iff a .extRam).mp region).2

/-- A step changes the cartridge by bus writes alone. -/
theorem step_keepsCart {P : Option Cart → Prop} {s t : State} (h : step s = .next t)
    (write : ∀ (u : State) (a : Word) (v : Byte), P u.cart → P (u.write a v).cart) (hs : P s.cart) : P t.cart :=
  step_keeps (P := fun u => P u.cart) h (fun _ _ _ hu => hu) write (fun _ _ hu => hu)
    (fun u n hu => (u.advanceDevices_cart n).symm ▸ hu) hs

theorem State.advanceDevices_config (s : State) (n : Nat) : (s.advanceDevices n).config = s.config := by
  rw [s.advanceDevices_rest n]

/-- Settles O56: every bus write keeps the cartridge legal, its header and the parameters, and so does the rest of a
step. -/
theorem stepKeepsCartridge : Obligations.StepKeepsCartridge := by
  intro s t h
  refine ⟨fun ok => ?_, ?_, ?_⟩
  · exact step_keepsCart (P := fun c => ∀ k, c = some k → k.Ok) h (fun _ a v hu => State.write_cartOk a v hu) ok
  · exact step_keeps (P := fun u => u.config = s.config) h (fun _ _ _ hu => hu)
      (fun u a v hu => (u.write_config a v).trans hu) (fun _ _ hu => hu)
      (fun u n hu => (u.advanceDevices_config n).trans hu) rfl
  · exact step_keepsCart (P := fun c => c.map Cart.header = s.cart.map Cart.header) h
      (fun u a v hu => (u.write_header a v).trans hu) rfl

end Sys2Proof.Machine
end

section
/-! PROOFS. The bank controllers in the rules' own arithmetic: registers, ROM banks and the external-RAM window (R105 to
R128). -/

namespace Sys2Proof.Machine

open Sys2Proof.Claims

/-! ### Register fields as numbers -/

theorem ramEnableValue_eq (v : Byte) : ramEnableValue v = decide (v.toNat % 16 = 10) := by
  revert v
  decide

theorem and_0x0F_eq (v : Byte) : v &&& 0x0F = BitVec.ofNat 8 (v.toNat % 16) := by
  apply BitVec.eq_of_toNat_eq
  rw [BitVec.toNat_and, BitVec.toNat_ofNat]
  have := Nat.and_two_pow_sub_one_eq_mod v.toNat 4
  simp at this ⊢
  omega

theorem setWidth_eq_ofNat_mod (v : Byte) (w : Nat) : v.setWidth w = BitVec.ofNat w (v.toNat % 2 ^ w) := by
  apply BitVec.eq_of_toNat_eq
  simp

/-- R107, R113, R118: a bank number whose bits are all 0 becomes 1. -/
theorem ite_setWidth_eq (v : Byte) {w : Nat} :
    (if v.setWidth w = 0 then 1 else v.setWidth w) =
      BitVec.ofNat w (if v.toNat % 2 ^ w = 0 then 1 else v.toNat % 2 ^ w) := by
  have zero : v.setWidth w = 0 ↔ v.toNat % 2 ^ w = 0 := by
    rw [← BitVec.toNat_inj, BitVec.toNat_setWidth]
    simp
  rw [apply_ite (BitVec.ofNat w), ← setWidth_eq_ofNat_mod]
  simp only [zero]
  rfl

/-- R126: the low byte of MBC5's bank number replaced. -/
theorem mbc5_low_eq (r : BitVec 9) (v : Byte) :
    (r.extractLsb' 8 1 ++ v : BitVec 9) = BitVec.ofNat 9 (r.toNat / 256 * 256 + v.toNat) := by
  apply BitVec.eq_of_toNat_eq
  have := v.isLt
  have := r.isLt
  rw [BitVec.toNat_append, Nat.shiftLeft_eq, Nat.mul_comm, ← Nat.two_pow_add_eq_or_of_lt (by omega)]
  simp [Nat.shiftRight_eq_div_pow]
  omega

/-- R126: bit 8 of MBC5's bank number replaced. -/
theorem mbc5_high_eq (r : BitVec 9) (v : Byte) :
    (v.extractLsb' 0 1 ++ r.extractLsb' 0 8 : BitVec 9) = BitVec.ofNat 9 (v.toNat % 2 * 256 + r.toNat % 256) := by
  apply BitVec.eq_of_toNat_eq
  rw [BitVec.toNat_append, Nat.shiftLeft_eq, Nat.mul_comm, ← Nat.two_pow_add_eq_or_of_lt (BitVec.isLt _)]
  simp
  omega

/-! ### Control writes and ROM banks -/

section
variable (a : Nat) (v : Byte)

theorem Mbc1.control_eq (r : Mbc1) : Mbc.mbc1 (r.control a v) = mbcAfter (.mbc1 r) a v := by
  simp only [Mbc1.control, mbcAfter, ramEnableValue_eq, ite_setWidth_eq, setWidth_eq_ofNat_mod v 2, getLsbD_zero]
  rfl

theorem Mbc2.control_eq (r : Mbc2) : Mbc.mbc2 (r.control a v) = mbcAfter (.mbc2 r) a v := by
  simp only [Mbc2.control, mbcAfter, ramEnableValue_eq, ite_setWidth_eq]
  by_cases hi : 0x4000 ≤ a
  · rw [if_neg (by omega), if_pos hi]
  · rw [if_pos (by omega), if_neg hi]
    by_cases even : a / 256 % 2 = 0
    · have bit : ¬ a.testBit 8 = true := by rw [Nat.testBit_eq_decide_div_mod_eq]; simpa using even
      rw [if_neg bit, if_pos even]
    · have bit : a.testBit 8 = true := by rw [Nat.testBit_eq_decide_div_mod_eq]; simpa using even
      rw [if_pos bit, if_neg even]
      rfl

theorem Mbc3.control_eq (r : Mbc3) : Mbc.mbc3 (r.control a v) = mbcAfter (.mbc3 r) a v := by
  simp only [Mbc3.control, mbcAfter, ramEnableValue_eq, ite_setWidth_eq]
  rfl

theorem Mbc5.control_eq (r : Mbc5) : Mbc.mbc5 (r.control a v) = mbcAfter (.mbc5 r) a v := by
  simp only [Mbc5.control, mbcAfter, ramEnableValue_eq, mbc5_low_eq, mbc5_high_eq, setWidth_eq_ofNat_mod]
  rfl

theorem Mbc.control_eq (m : Mbc) : m.control a v = mbcAfter m a v := by
  cases m with
  | noMbc => rfl
  | mbc1 r => exact r.control_eq a v
  | mbc2 r => exact r.control_eq a v
  | mbc3 r => exact r.control_eq a v
  | mbc5 r => exact r.control_eq a v

end

theorem Mbc.lowBank_eq {m : Mbc} (h : m ≠ .noMbc) : m.lowBank = romBank m false := by
  cases m with
  | noMbc => exact absurd rfl h
  | mbc1 r => simp [Mbc.lowBank, romBank, Nat.shiftLeft_eq, Nat.mul_comm]
  | mbc2 | mbc3 | mbc5 => rfl

theorem Mbc.highBank_eq (m : Mbc) : m.highBank = romBank m true := by
  cases m with
  | mbc1 r =>
    simp only [Mbc.highBank, romBank]
    rw [Nat.shiftLeft_eq, Nat.mul_comm, ← Nat.two_pow_add_eq_or_of_lt r.bankLow.isLt]
    rfl
  | noMbc | mbc2 | mbc3 | mbc5 => rfl

/-- R105, R106: the image offset a ROM address reads. -/
theorem Cart.romOffset_eq (k : Cart) (a : Nat) :
    k.romOffset a = if k.mbc = .noMbc then a
      else romBank k.mbc (decide (0x4000 ≤ a)) % k.romBanks * 0x4000 + a % 0x4000 := by
  unfold Cart.romOffset
  split
  next direct => rw [if_pos direct]
  next banked =>
    have banked : k.mbc ≠ .noMbc := banked
    rw [if_neg banked, Mbc.lowBank_eq banked, Mbc.highBank_eq]
    by_cases low : a < 0x4000
    · rw [if_pos low, decide_eq_false (by omega)]
    · rw [if_neg low, decide_eq_true (by omega)]

/-- Settles O46: the controller's registers and ROM banks are those of the rules. -/
theorem mbc1Banking : Obligations.Mbc1Banking := by
  refine ⟨fun _ _ => rfl, fun s k a v cart hi => ?_⟩
  have rom : regionOf a = .rom := regionOf_eq .rom (Nat.zero_le _) hi
  rw [State.read_cartRom cart rom, State.write_cartRom v cart rom, Cart.readRom, Cart.romOffset_eq, Cart.control,
    Mbc.control_eq]
  exact ⟨rfl, rfl⟩

/-! ### The external-RAM window -/

/-- R112, R123, R128: where the controller selects a RAM bank and there is RAM, the window shows a byte of it. -/
theorem Cart.ramTarget_of_ramBank {k : Cart} {b : Nat} (a : Nat) (bank : ramBank k.mbc = some b)
    (some : 0 < k.ramBanks) : k.ramTarget a = .byte (b % k.ramBanks * 0x2000 + (a - 0xA000)) := by
  have shown : k.bankedRam b a = .byte (b % k.ramBanks * 0x2000 + (a - 0xA000)) := if_neg (by omega)
  cases mbc : k.mbc with
  | noMbc | mbc2 =>
    rw [mbc] at bank
    cases bank
  | mbc1 | mbc3 | mbc5 =>
    rw [mbc] at bank
    obtain ⟨on, selected⟩ := Option.ite_none_right_eq_some.mp bank
    cases selected
    simp only [Cart.ramTarget, mbc, on, if_true, shown]

theorem Cart.bankedRam_none {k : Cart} {on : Bool} (n a : Nat) (h : on = false ∨ k.ramBanks = 0) :
    (if on then k.bankedRam n a else .none) = .none := by
  obtain rfl | absent := h
  · rfl
  · rw [Cart.bankedRam, if_pos absent, ite_self]

/-- R123: MBC3's window shows nothing where it is disabled, where there is no RAM to select, or for a select that names
neither a RAM bank nor an RTC register. -/
theorem Cart.ramTarget_mbc3_none {k : Cart} {r : Mbc3} (a : Nat) (mbc : k.mbc = .mbc3 r)
    (h : r.ramEnable = false ∨ (r.select.toNat < 4 ∧ k.ramBanks = 0) ∨ (4 ≤ r.select.toNat ∧ r.select.toNat < 8) ∨
      0x0C < r.select.toNat) : k.ramTarget a = .none := by
  simp only [Cart.ramTarget, mbc]
  split
  next on =>
    have selected := h.resolve_left (by simp [on])
    split
    next bank => exact if_pos (by omega)
    next => exact if_neg (by omega)
  next => rfl

/-! ### RTC registers as numbers -/

/-- R121: the day register's three bits. -/
theorem rtcDays_toNat (b h c : Bool) :
    (bitByte b ||| (bitByte h <<< 6) ||| (bitByte c <<< 7)).toNat = bit b + 64 * bit h + 128 * bit c := by
  revert b h c
  decide

theorem select_cases {x : Byte} (lo : 8 ≤ x.toNat) (hi : x.toNat ≤ 12) :
    x = 8 ∨ x = 9 ∨ x = 10 ∨ x = 11 ∨ x = 12 := by
  bv_omega

theorem Rtc.read_toNat (t : Rtc) {select : Byte} (lo : 8 ≤ select.toNat) (hi : select.toNat ≤ 12) :
    (t.read select).toNat = rtcNumber t select.toNat := by
  obtain rfl | rfl | rfl | rfl | rfl := select_cases lo hi
  · exact BitVec.toNat_setWidth_of_le (by decide)
  · exact BitVec.toNat_setWidth_of_le (by decide)
  · exact BitVec.toNat_setWidth_of_le (by decide)
  · rfl
  · exact rtcDays_toNat _ _ _

theorem Rtc.write_eq (t : Rtc) {select : Byte} (v : Byte) (lo : 8 ≤ select.toNat) (hi : select.toNat ≤ 12) :
    t.write select v = rtcStored t select.toNat v.toNat := by
  have days : t.write 12 v = rtcStored t 12 v.toNat := by
    simp only [Rtc.write, getLsbD_zero, getLsbD_eq_div_mod v 6, getLsbD_eq_div_mod v 7]
    rfl
  obtain rfl | rfl | rfl | rfl | rfl := select_cases lo hi
  · exact congrArg (fun x => { t with seconds := x }) (setWidth_eq_ofNat_mod v 6)
  · exact congrArg (fun x => { t with minutes := x }) (setWidth_eq_ofNat_mod v 6)
  · exact congrArg (fun x => { t with hours := x }) (setWidth_eq_ofNat_mod v 5)
  · exact congrArg (fun x => { t with daysLow := x }) (BitVec.ofNat_toNat 8 v).symm
  · exact days

/-- Settles O47: by what the window shows in each of the four cases. -/
theorem disabledRam : Obligations.DisabledRam := by
  intro s k a v cart lo hi
  have region : regionOf a = .extRam := regionOf_eq .extRam lo hi
  rw [State.read_cartRam cart region, State.write_cartRam v cart region]
  have stored (o : Nat) (x : Byte) :
      RamStored s k o x { s with cart := some { k with extRam := k.extRam.write o x } } :=
    ⟨_, rfl, fun j => Memory.read_write k.extRam o j x⟩
  refine ⟨fun h => ?_, fun b bank some => ?_, fun r mbc on low => ?_, fun r mbc on lo hi => ?_⟩
  · have none : k.ramTarget a.toNat = .none := by
      cases mbc : k.mbc with
      | noMbc => simp only [Cart.ramTarget, mbc]
      | mbc1 r =>
        rw [mbc] at h
        simpa only [Cart.ramTarget, mbc] using Cart.bankedRam_none _ _ h
      | mbc2 r =>
        rw [mbc] at h
        simp only [Cart.ramTarget, mbc]
        exact if_neg fun ⟨on, low⟩ => h.elim (by simp [on]) (by omega)
      | mbc3 r =>
        rw [mbc] at h
        exact Cart.ramTarget_mbc3_none _ mbc h
      | mbc5 r =>
        rw [mbc] at h
        simpa only [Cart.ramTarget, mbc] using Cart.bankedRam_none _ _ h
    rw [Cart.readRam_none none, Cart.writeRam_none v none, ← cart]
    exact ⟨rfl, rfl⟩
  · have byte := Cart.ramTarget_of_ramBank a.toNat bank some
    rw [Cart.readRam_byte byte, Cart.writeRam_byte v byte]
    exact ⟨rfl, stored _ v⟩
  · have nibble : k.ramTarget a.toNat = .nibble (a.toNat - 0xA000) := by
      simp only [Cart.ramTarget, mbc]
      exact if_pos ⟨on, low⟩
    rw [Cart.readRam_nibble nibble, Cart.writeRam_nibble v nibble, and_0x0F_eq]
    exact ⟨rfl, stored _ _⟩
  · have rtc : k.ramTarget a.toNat = .rtc r.select := by
      simp only [Cart.ramTarget, mbc, on, if_true]
      rw [if_neg (by omega), if_pos ⟨lo, hi⟩]
    rw [Cart.readRam_rtc mbc rtc, Cart.writeRam_rtc v mbc rtc, ← Rtc.write_eq _ _ lo hi]
    exact ⟨Rtc.read_toNat _ lo hi, rfl⟩

end Sys2Proof.Machine
end

section
/-! PROOFS. How far a store reaches: the register pages, the cartridge and the internal memories (R72, R78, R88). -/

namespace Sys2Proof.Machine

open Sys2Proof.Claims

/-! ### The address of a register -/

/-- R47: the offset of a sound register in the I/O page. -/
def SoundReg.offset : SoundReg → Nat
  | .nr10 => 0x10 | .nr11 => 0x11 | .nr12 => 0x12 | .nr13 => 0x13 | .nr14 => 0x14
  | .nr21 => 0x16 | .nr22 => 0x17 | .nr23 => 0x18 | .nr24 => 0x19
  | .nr30 => 0x1A | .nr31 => 0x1B | .nr32 => 0x1C | .nr33 => 0x1D | .nr34 => 0x1E
  | .nr41 => 0x20 | .nr42 => 0x21 | .nr43 => 0x22 | .nr44 => 0x23 | .nr50 => 0x24 | .nr51 => 0x25

/-- R47: the offset of a register in the I/O page: the first of the wave RAM, and none (0x80) of `unused`. -/
def IoReg.offset : IoReg → Nat
  | .p1 => 0x00 | .sb => 0x01 | .sc => 0x02 | .div => 0x04 | .tima => 0x05 | .tma => 0x06 | .tac => 0x07 | .ifl => 0x0F
  | .sound k => k.offset | .nr52 => 0x26 | .waveRam => 0x30
  | .lcdc => 0x40 | .stat => 0x41 | .scy => 0x42 | .scx => 0x43 | .ly => 0x44 | .lyc => 0x45 | .dma => 0x46
  | .bgp => 0x47 | .obp0 => 0x48 | .obp1 => 0x49 | .wy => 0x4A | .wx => 0x4B | .boot => 0x50
  | .unused => 0x80

theorem ioRegAt_offset : ∀ n < 0x80, ioRegAt n = .waveRam ∨ ioRegAt n = .unused ∨ (ioRegAt n).offset = n := by
  decide

theorem SoundReg.offset_bounds (k : SoundReg) : 0x10 ≤ k.offset ∧ k.offset ≤ 0x26 := by
  cases k <;> decide

/-- The register `r`, other than the wave RAM and `unused`, is at its offset alone. -/
theorem toNat_of_ioReg {a : Word} {r : IoReg} (io : regionOf a = .io) (reg : ioReg a = r) (wave : r ≠ .waveRam)
    (used : r ≠ .unused) : a.toNat = 0xFF00 + r.offset := by
  have page := (regionOf_eq_iff a .io).mp io
  simp only [Region.bounds] at page
  subst reg
  have := ((ioRegAt_offset (a.toNat % 0x100) (by omega)).resolve_left wave).resolve_left used
  unfold ioReg
  omega

/-! ### What a write to a register leaves to read -/

/-- The registers whose writes show in themselves alone. -/
def IoReg.isPlain : IoReg → Bool
  | .p1 | .sb | .sc | .div | .tima | .tma | .tac | .ifl | .scy | .scx | .bgp | .obp0 | .obp1 | .wy | .wx => true
  | _ => false

/-- R481: a write to a sound register stores it, or is ignored with the power off. -/
theorem Apu.writeSound_regs (scale : NoiseScale) (a : Apu) (k : SoundReg) (v : Byte) :
    (Apu.writeSound scale a k v).regs = a.regs ∨ (Apu.writeSound scale a k v).regs = a.regs.set k v := by
  unfold Apu.writeSound
  split
  · rw [(Apu.soundEffect_frame scale { a with regs := a.regs.set k v } k v).rest]
    exact .inr rfl
  · exact .inl rfl

section
variable {s : State} {q : IoReg} (a b : Word) (v : Byte)

theorem State.readIo_writeIo_plain {r : IoReg} (plain : r.isPlain = true) :
    (s.writeIo r a v).readIo q b = if q = r then (s.writeIo r a v).readIo r b else s.readIo q b := by
  cases r <;> cases plain <;> cases q <;> rfl

/-- R481: a write to a sound register shows in that register and, by the channels, in NR52. -/
theorem State.readIo_writeIo_sound {k : SoundReg} (other : q ≠ .sound k) (status : q ≠ .nr52) :
    (s.writeIo (.sound k) a v).readIo q b = s.readIo q b := by
  cases q
  case sound j =>
    have ne : j ≠ k := fun e => other (e ▸ rfl)
    show (Apu.writeSound s.config.noiseScale s.apu k v).regs.read j = s.apu.regs.read j
    obtain e | e := Apu.writeSound_regs s.config.noiseScale s.apu k v
    · rw [e]
    · rw [e, ApuRegs.read, ApuRegs.get_set, if_neg ne, ApuRegs.read]
  case nr52 => exact absurd rfl status
  all_goals rfl

/-- R490: the power switch shows in the sound registers and NR52. -/
theorem State.readIo_writeIo_nr52 (sound : ∀ k, q ≠ .sound k) (status : q ≠ .nr52) :
    (s.writeIo .nr52 a v).readIo q b = s.readIo q b := by
  cases q
  case sound k => exact absurd rfl (sound k)
  case nr52 => exact absurd rfl status
  all_goals rfl

/-- R465: the evaluation of the STAT line shows in IF alone. -/
theorem State.readIo_evalStat (request : q ≠ .ifl) : s.evalStat.readIo q b = s.readIo q b := by
  rw [State.evalStat_eq]
  cases q
  case ifl => exact absurd rfl request
  all_goals rfl

theorem State.readIo_writeIo_stat (self : q ≠ .stat) (request : q ≠ .ifl) :
    (s.writeIo .stat a v).readIo q b = s.readIo q b := by
  refine (State.readIo_evalStat b request).trans ?_
  cases q
  case stat => exact absurd rfl self
  all_goals rfl

/-- R465: LYC shows in itself and in STAT's coincidence bit. -/
theorem State.readIo_writeIo_lyc (self : q ≠ .lyc) (stat : q ≠ .stat) (request : q ≠ .ifl) :
    (s.writeIo .lyc a v).readIo q b = s.readIo q b := by
  refine (State.readIo_evalStat b request).trans ?_
  cases q
  case lyc => exact absurd rfl self
  case stat => exact absurd rfl stat
  all_goals rfl

/-- R466: the restart of the frame shows in LY and in STAT. -/
theorem State.readIo_writeIo_ly (self : q ≠ .ly) (stat : q ≠ .stat) (request : q ≠ .ifl) :
    (s.writeIo .ly a v).readIo q b = s.readIo q b := by
  refine (State.readIo_evalStat b request).trans ?_
  cases q
  case ly => exact absurd rfl self
  case stat => exact absurd rfl stat
  all_goals rfl

/-- R467: the LCD switch shows in LCDC, STAT, LY and IF. -/
theorem State.readIo_writeIo_lcdc (self : q ≠ .lcdc) (stat : q ≠ .stat) (ly : q ≠ .ly) (request : q ≠ .ifl) :
    (s.writeIo .lcdc a v).readIo q b = s.readIo q b := by
  have switched {p : Ppu} (e : State.readIo { s with ppu := p } q b = s.readIo q b) :
      (State.evalStat { s with ppu := p }).readIo q b = s.readIo q b := (State.readIo_evalStat b request).trans e
  have other (p : Ppu) (e : p = { s.ppu with
      lcdc := p.lcdc, mode := p.mode, line := p.line, modeCycles := p.modeCycles, statLine := p.statLine, work := p.work
      output := p.output }) : State.readIo { s with ppu := p } q b = s.readIo q b := by
    rw [e]
    cases q
    case lcdc => exact absurd rfl self
    case stat => exact absurd rfl stat
    case ly => exact absurd rfl ly
    all_goals rfl
  unfold State.writeIo State.writeLcdc
  dsimp only
  split
  · exact other _ rfl
  · split <;> exact switched (other _ rfl)

/-- R92: the OAM DMA shows in its register alone, among the registers. -/
theorem State.readIo_writeIo_dma (io : regionOf b = .io) (self : q ≠ .dma) :
    (s.writeIo .dma a v).readIo q b = s.readIo q b := by
  have page := (regionOf_eq_iff b .io).mp io
  simp only [Region.bounds] at page
  have mem := State.oamDma_mem_other { s with dma := v } v (k := 160) (n := b.toNat) (.inr (by omega))
  show (State.oamDma { s with dma := v } v 160).readIo q b = s.readIo q b
  rw [State.oamDma_eq]
  generalize (State.oamDma { s with dma := v } v 160).mem = m at mem
  cases q
  case dma => exact absurd rfl self
  case waveRam => exact mem
  all_goals rfl

end

/-! ### The reach of a store -/

/-- R47: beside the wave RAM and `unused`, distinct addresses hold distinct registers. -/
theorem ioReg_ne {a b : Word} (h : b ≠ a) (io : regionOf a = .io) (wave : ioReg a ≠ .waveRam)
    (used : ioReg a ≠ .unused) (io' : regionOf b = .io) : ioReg b ≠ ioReg a := fun same =>
  h (BitVec.eq_of_toNat_eq ((toNat_of_ioReg io' same wave used).trans (toNat_of_ioReg io rfl wave used).symm))

section
variable {b : Word} (io : regionOf b = .io)
include io

theorem ioReg_ne_nr52 (h : b ≠ 0xFF26) : ioReg b ≠ .nr52 := ioReg_ne (a := 0xFF26) h rfl (by decide) (by decide) io

theorem ioReg_ne_stat (h : b ≠ 0xFF41) : ioReg b ≠ .stat := ioReg_ne (a := 0xFF41) h rfl (by decide) (by decide) io

theorem ioReg_ne_ly (h : b ≠ 0xFF44) : ioReg b ≠ .ly := ioReg_ne (a := 0xFF44) h rfl (by decide) (by decide) io

theorem ioReg_ne_ifl (h : b ≠ 0xFF0F) : ioReg b ≠ .ifl := ioReg_ne (a := 0xFF0F) h rfl (by decide) (by decide) io

end

/-- R81, R88: beside the OAM DMA and the wave RAM, a write to a register shows where `storeReaches` says. -/
theorem State.readIo_writeIo_other {s : State} {a b : Word} (v : Byte) (page : regionOf a = .io) (io : regionOf b = .io)
    (h : storeReaches a b = false) (dma : ioReg a ≠ .dma) (wave : ioReg a ≠ .waveRam) :
    (s.writeIo (ioReg a) a v).readIo (ioReg b) b = s.readIo (ioReg b) b := by
  have self (other : b ≠ a) (used : ioReg a ≠ .unused) : ioReg b ≠ ioReg a := ioReg_ne other page wave used io
  simp only [storeReaches, page] at h
  cases reg : ioReg a <;> simp only [reg, Bool.or_eq_false_iff, decide_eq_false_iff_not] at h self
  case dma => exact absurd reg dma
  case waveRam => exact absurd reg wave
  case boot => rfl
  case unused => rfl
  case sound k => exact State.readIo_writeIo_sound a b v (self h.1 nofun) (ioReg_ne_nr52 io h.2)
  case nr52 =>
    have outside {r : IoReg} (e : ioReg b = r) (lo : 0x10 ≤ r.offset) (hi : r.offset ≤ 0x26) (plain : r ≠ .waveRam)
        (used : r ≠ .unused) : False := by
      have := toNat_of_ioReg io e plain used
      simp only [Bool.and_eq_false_iff, decide_eq_false_iff_not] at h
      omega
    exact State.readIo_writeIo_nr52 a b v (fun k e => outside e k.offset_bounds.1 k.offset_bounds.2 nofun nofun)
      fun e => outside e (by decide) (by decide) nofun nofun
  case lcdc =>
    obtain ⟨⟨⟨other, stat⟩, ly⟩, request⟩ := h
    exact State.readIo_writeIo_lcdc a b v (self other nofun) (ioReg_ne_stat io stat) (ioReg_ne_ly io ly)
      (ioReg_ne_ifl io request)
  case stat => exact State.readIo_writeIo_stat a b v (self h.1 nofun) (ioReg_ne_ifl io h.2)
  case ly =>
    obtain ⟨⟨other, stat⟩, request⟩ := h
    exact State.readIo_writeIo_ly a b v (self other nofun) (ioReg_ne_stat io stat) (ioReg_ne_ifl io request)
  case lyc =>
    obtain ⟨⟨other, stat⟩, request⟩ := h
    exact State.readIo_writeIo_lyc a b v (self other nofun) (ioReg_ne_stat io stat) (ioReg_ne_ifl io request)
  all_goals rw [State.readIo_writeIo_plain a b v rfl, if_neg (self h nofun)]

/-- R81, R88: the reach of a write to a register. -/
theorem State.read_writeIo_other {s : State} {a b : Word} (v : Byte) (page : regionOf a = .io)
    (h : storeReaches a b = false) : (s.writeIo (ioReg a) a v).read b = s.read b := by
  have shown := echoed_cases b
  by_cases wave : ioReg a = .waveRam
  · have bounds := (regionOf_eq_iff a .io).mp page
    have other : b ≠ a := by simpa [storeReaches, page, wave] using h
    have distinct : b.toNat ≠ a.toNat := fun same => other (BitVec.eq_of_toNat_eq same)
    simp only [Region.bounds] at bounds
    rw [wave]
    exact s.read_store_other v (by omega)
  obtain ⟨cart, ie, mem⟩ := s.writeIo_rest (ioReg a) a v
  by_cases dma : ioReg a = .dma
  · obtain ⟨other, oam⟩ : b ≠ a ∧ regionOf b ≠ .oam := by simpa [storeReaches, page, dma] using h
    have outside : ¬ (0xFE00 ≤ b.toNat ∧ b.toNat < 0xFEA0) := fun inside => oam (regionOf_eq .oam inside.1 inside.2)
    refine State.read_congr ?_ (fun _ => cart) (fun _ => ie) fun io => ?_
    · rw [dma]
      exact State.oamDma_mem_other { s with dma := v } v (by omega)
    · have self := ioReg_ne other page wave (by simp [dma]) io
      rw [dma] at self ⊢
      exact State.readIo_writeIo_dma a b v io self
  · exact State.read_congr (by rw [mem dma wave]) (fun _ => cart) (fun _ => ie) fun io =>
      State.readIo_writeIo_other v page io h dma wave

/-! ### The cartridge's regions -/

/-- A write in the external-RAM window changes the RAM's bytes or MBC3's live clock. -/
theorem Cart.writeRam_cases (k : Cart) (a : Nat) (v : Byte) :
    (∃ m, k.writeRam a v = { k with extRam := m }) ∨
      ∃ r t, k.mbc = .mbc3 r ∧ k.writeRam a v = { k with mbc := .mbc3 { r with live := t } } := by
  cases k.window with
  | closed target => exact .inl ⟨_, Cart.writeRam_none v (target a)⟩
  | bank base _ _ target => exact .inl ⟨_, Cart.writeRam_byte v (target a)⟩
  | nibbles r _ target =>
    have reached := target a
    split at reached
    · exact .inl ⟨_, Cart.writeRam_nibble v reached⟩
    · exact .inl ⟨_, Cart.writeRam_none v reached⟩
  | clock r controller target => exact .inr ⟨r, _, controller, Cart.writeRam_rtc v controller (target a)⟩

/-- R123: so it changes neither the ROM banks nor what the window shows. -/
theorem Cart.writeRam_maps (k : Cart) (a b : Nat) (v : Byte) :
    (k.writeRam a v).readRom b = k.readRom b ∧ (k.writeRam a v).ramTarget b = k.ramTarget b := by
  obtain ⟨m, e⟩ | ⟨r, t, controller, e⟩ := k.writeRam_cases a v
  · rw [e]
    exact ⟨rfl, rfl⟩
  · rw [e]
    simp only [Cart.readRom, Cart.romOffset, Cart.ramTarget, controller]
    exact ⟨rfl, rfl⟩

/-- R112, R115, R123: a write in the window does not show at another address of it: its bytes are distinct, and an RTC
write goes to the live clock, which is not read. -/
theorem Cart.writeRam_readRam_other (k : Cart) {a b : Nat} (v : Byte) (ha : 0xA000 ≤ a) (hb : 0xA000 ≤ b) (h : b ≠ a) :
    (k.writeRam a v).readRam b = k.readRam b := by
  have kept := (k.writeRam_maps a b v).2
  cases k.window with
  | closed target => rw [Cart.writeRam_none v (target a)]
  | bank base _ _ target =>
    rw [Cart.readRam_byte (target b), Cart.readRam_byte (kept.trans (target b)), Cart.writeRam_byte v (target a)]
    exact Memory.read_write_other _ _ (by omega)
  | nibbles r _ target =>
    have written := target a
    have shown := target b
    split at written
    · split at shown
      · rw [Cart.readRam_nibble shown, Cart.readRam_nibble (kept.trans shown), Cart.writeRam_nibble v written]
        exact congrArg (0xF0 ||| ·) (Memory.read_write_other _ _ (by omega))
      · rw [Cart.readRam_none shown, Cart.readRam_none (kept.trans shown)]
    · rw [Cart.writeRam_none v written]
  | clock r controller target =>
    rw [Cart.readRam_rtc controller (target b), Cart.writeRam_rtc v controller (target a)]
    rw [Cart.writeRam_rtc v controller (target a)] at kept
    exact Cart.readRam_rtc (r := { r with live := r.live.write r.select v }) rfl (kept.trans (target b))

/-! ### Every store -/

/-- R88: a write in the external-RAM window shows at its own address alone. -/
theorem State.read_write_extRam {s : State} {a b : Word} (v : Byte) (region : regionOf a = .extRam) (h : b ≠ a) :
    (s.write a v).read b = s.read b := by
  have bounds := (regionOf_eq_iff a .extRam).mp region
  have distinct : b.toNat ≠ a.toNat := fun same => h (BitVec.eq_of_toNat_eq same)
  cases cart : s.cart with
  | none =>
    simp only [State.write, region]
    exact State.read_congr rfl (fun _ => by rw [cart]; rfl) (fun _ => rfl) fun _ => rfl
  | some k =>
    have written := State.write_cartRam v cart region
    have cart' : (s.write a v).cart = some (k.writeRam a.toNat v) := by rw [written]
    by_cases rom : regionOf b = .rom
    · rw [State.read_cartRom cart rom, State.read_cartRom cart' rom]
      exact (k.writeRam_maps _ _ v).1
    · by_cases ram : regionOf b = .extRam
      · have bounds' := (regionOf_eq_iff b .extRam).mp ram
        rw [State.read_cartRam cart ram, State.read_cartRam cart' ram]
        exact k.writeRam_readRam_other v bounds.1 bounds'.1 distinct
      · rw [written]
        exact State.read_congr rfl (fun h => (h.elim rom ram).elim) (fun _ => rfl) fun _ => rfl

/-- R72, R76 to R79, R82: a write to an internal memory stores at the address behind, or is ignored under the lock. -/
theorem State.write_internal {s : State} {a : Word} (v : Byte)
    (h : regionOf a = .vram ∨ regionOf a = .wram ∨ regionOf a = .echo ∨ regionOf a = .oam ∨ regionOf a = .hram) :
    s.write a v = s ∨ s.write a v = s.store (echoed a).toNat v := by
  have video (r : regionOf a = .vram ∨ regionOf a = .oam) (e : regionOf a ≠ .echo) :
      s.write a v = s ∨ s.write a v = s.store (echoed a).toNat v := by
    rw [State.write_video v r, echoed_of_ne e]
    split
    · exact .inl rfl
    · exact .inr rfl
  obtain h | h | h | h | h := h
  · exact video (.inl h) (by simp [h])
  · exact .inr (by rw [State.write_ram v (.inl h), echoed_of_ne (by simp [h])])
  · exact .inr (by rw [State.write_echo v h, State.write_ram v (.inl (regionOf_sub_of_echo h).2), echoed, if_pos h])
  · exact video (.inr h) (by simp [h])
  · exact .inr (by rw [State.write_ram v (.inr h), echoed_of_ne (by simp [h])])

theorem eq_of_region_ie {a b : Word} (ha : regionOf a = .ie) (hb : regionOf b = .ie) : a = b := by
  have boundsA := (regionOf_eq_iff a .ie).mp ha
  have boundsB := (regionOf_eq_iff b .ie).mp hb
  simp only [Region.bounds] at boundsA boundsB
  bv_omega

/-- R44: IE shows in no register of the I/O page. -/
theorem State.readIo_ie (s : State) (q : IoReg) (b : Word) (x : BitVec 5) :
    State.readIo { s with irq := { s.irq with ie := x } } q b = s.readIo q b := by
  cases q <;> rfl

/-- R88, R72, R78: a store shows where `storeReaches` says. -/
theorem State.read_write_other {s : State} {a b : Word} (v : Byte) (h : storeReaches a b = false) :
    (s.write a v).read b = s.read b := by
  have internal (region : regionOf a = .vram ∨ regionOf a = .wram ∨ regionOf a = .echo ∨ regionOf a = .oam ∨
      regionOf a = .hram) (ne : echoed b ≠ echoed a) : (s.write a v).read b = s.read b := by
    obtain e | e := State.write_internal v region
    · rw [e]
    · rw [e]
      exact s.read_store_other v fun same => ne (BitVec.eq_of_toNat_eq same)
  cases region : regionOf a with
  | rom =>
    simp only [storeReaches, region, Bool.or_eq_false_iff, decide_eq_false_iff_not] at h
    simp only [State.write, region]
    exact State.read_congr rfl (fun r => (r.elim h.1 h.2).elim) (fun _ => rfl) fun _ => rfl
  | unusable => simp only [State.write, region]
  | io =>
    rw [State.write_io v region]
    exact State.read_writeIo_other v region h
  | extRam =>
    have ne : echoed b ≠ echoed a := by simpa [storeReaches, region] using h
    exact State.read_write_extRam v region fun same => ne (by rw [same])
  | ie =>
    have ne : echoed b ≠ echoed a := by simpa [storeReaches, region] using h
    simp only [State.write, region]
    exact State.read_congr rfl (fun _ => rfl) (fun other => absurd (congrArg echoed (eq_of_region_ie other region)) ne)
      fun _ => s.readIo_ie _ b _
  | vram | wram | echo | oam | hram => exact internal (by simp [region]) (by simpa [storeReaches, region] using h)

/-- Settles O30: by the region the store goes to. -/
theorem storeReach : Obligations.StoreReach := fun _ _ _ v h => State.read_write_other v h

end Sys2Proof.Machine
end

section
/-! PROOFS. Where each instruction stores, the memory frame that follows, and the completion of every step (R88, R133,
R203 to R218, R285 to R322, R432). -/

namespace Sys2Proof.Machine

/-- Settles O36: the cases of the CPU step all end in a next state. -/
theorem everyStepCompletes : Obligations.EveryStepCompletes := by
  intro s
  unfold step systemStep
  split
  · exact ⟨s, rfl⟩
  · obtain ⟨t, ht, -⟩ := cpuStep_next s
    rw [ht]
    exact ⟨_, rfl⟩

/-! ### Stores at given addresses -/

/-- `t` is reached from `s` by changes of the CPU and by bus writes at addresses of `places`. -/
inductive StoresAt (places : List Word) (s : State) : State → Prop where
  | refl : StoresAt places s s
  | cpu {t : State} (h : StoresAt places s t) (r : Regs) (c : Cpu) : StoresAt places s { t with regs := r, cpu := c }
  | write {t : State} (h : StoresAt places s t) (a : Word) (v : Byte) (place : a ∈ places) :
      StoresAt places s (t.write a v)

/-- A byte no store reaches reads as before. -/
theorem StoresAt.read_eq {places : List Word} {s t : State} {b : Word} (h : StoresAt places s t)
    (away : ∀ a ∈ places, storeReaches a b = false) : t.read b = s.read b := by
  induction h with
  | refl => rfl
  | cpu _ r c ih => rw [State.read_cpuPart, ih]
  | write _ a v place ih => rw [State.read_write_other v (away a place), ih]

/-- R330: a push stores at its two targets. -/
theorem StoresAt.push16 {s t : State} (h : StoresAt (pushTargets t.regs.sp) s t) (v : Word) :
    StoresAt (pushTargets t.regs.sp) s (t.push16 v) := by
  rw [State.push16_eq]
  exact ((h.cpu _ t.cpu).write _ _ (by simp [pushTargets])).write _ _ (by simp [pushTargets])

/-- The meaning ends in a next state, with stores at `places` alone. -/
def EndsStoring (places : List Word) (s : State) (r : Result State) : Prop :=
  ∃ t, r = .next t ∧ StoresAt places s t

theorem EndsStoring.cpuOnly (places : List Word) (s : State) (r : Regs) (c : Cpu) :
    EndsStoring places s (.next { s with regs := r, cpu := c }) := ⟨_, rfl, .cpu .refl r c⟩

theorem EndsStoring.one (s : State) (r r' : Regs) (c c' : Cpu) (a : Word) (v : Byte) :
    EndsStoring [a] s (.next { State.write { s with regs := r, cpu := c } a v with regs := r', cpu := c' }) :=
  ⟨_, rfl, .cpu (.write (.cpu .refl r c) a v (List.mem_singleton_self a)) r' c'⟩

/-! ### The forms -/

section
variable {places : List Word} (s : State)

theorem loadReg_endsStoring (dst src : Reg8) : EndsStoring places s (loadReg dst src s) := .cpuOnly ..

theorem loadImm_endsStoring (dst : Reg8) (n : Byte) : EndsStoring places s (loadImm dst n s) := .cpuOnly ..

theorem loadFromHl_endsStoring (dst : Reg8) : EndsStoring places s (loadFromHl dst s) := .cpuOnly ..

theorem aluReg_endsStoring (op : AluOp) (src : Reg8) : EndsStoring places s (aluReg op src s) := .cpuOnly ..

theorem aluMem_endsStoring (op : AluOp) : EndsStoring places s (aluMem op s) := .cpuOnly ..

theorem aluImm_endsStoring (op : AluOp) (n : Byte) : EndsStoring places s (aluImm op n s) := .cpuOnly ..

theorem incReg_endsStoring (k : Reg8) : EndsStoring places s (incReg k s) := .cpuOnly ..

theorem decReg_endsStoring (k : Reg8) : EndsStoring places s (decReg k s) := .cpuOnly ..

theorem rotateReg_endsStoring (op : RotOp) (k : Reg8) : EndsStoring places s (rotateReg op k s) := .cpuOnly ..

theorem testBitReg_endsStoring (b : Nat) (k : Reg8) : EndsStoring places s (testBitReg b k s) := .cpuOnly ..

theorem testBitMem_endsStoring (b : Nat) : EndsStoring places s (testBitMem b s) := .cpuOnly ..

theorem resetBitReg_endsStoring (b : Nat) (k : Reg8) : EndsStoring places s (resetBitReg b k s) := .cpuOnly ..

theorem raiseBitReg_endsStoring (b : Nat) (k : Reg8) : EndsStoring places s (raiseBitReg b k s) := .cpuOnly ..

theorem rotateA_endsStoring (op : RotOp) : EndsStoring places s (rotateA op s) := .cpuOnly ..

theorem loadAStep_endsStoring (delta : Word) : EndsStoring places s (loadAStep delta s) := .cpuOnly ..

theorem loadA_endsStoring (len cycles : Nat) (a : Word) : EndsStoring places s (loadA len cycles a s) := .cpuOnly ..

theorem loadImm16_endsStoring (dst : Reg16) (nn : Word) : EndsStoring places s (loadImm16 dst nn s) := .cpuOnly ..

theorem loadHlSpOffset_endsStoring (e : Byte) : EndsStoring places s (loadHlSpOffset e s) := .cpuOnly ..

theorem step16_endsStoring (k : Reg16) (delta : Word) : EndsStoring places s (step16 k delta s) := .cpuOnly ..

theorem addToHl_endsStoring (k : Reg16) : EndsStoring places s (addToHl k s) := .cpuOnly ..

theorem addToSp_endsStoring (e : Byte) : EndsStoring places s (addToSp e s) := .cpuOnly ..

theorem pop_endsStoring (k : StackReg) : EndsStoring places s (pop k s) := ⟨_, pop_next k s, .cpu .refl _ _⟩

theorem returnTop_endsStoring : EndsStoring places s (returnTop s) := ⟨_, returnTop_next s, .cpu .refl _ _⟩

theorem execReti_endsStoring : EndsStoring places s (execReti s) :=
  ⟨_, rfl, .cpu .refl _ ((s.fetched 1).returnFromInterrupt.tick 16).cpu⟩

theorem storeToHl_endsStoring (src : Reg8) : EndsStoring [s.regs.hl] s (storeToHl src s) := .one ..

theorem storeImmToHl_endsStoring (n : Byte) : EndsStoring [s.regs.hl] s (storeImmToHl n s) := .one ..

theorem storeAStep_endsStoring (delta : Word) : EndsStoring [s.regs.hl] s (storeAStep delta s) := .one ..

theorem storeA_endsStoring (len cycles : Nat) (a : Word) : EndsStoring [a] s (storeA len cycles a s) := .one ..

theorem incMem_endsStoring : EndsStoring [s.regs.hl] s (incMem s) := .one ..

theorem decMem_endsStoring : EndsStoring [s.regs.hl] s (decMem s) := .one ..

theorem resetBitMem_endsStoring (b : Nat) : EndsStoring [s.regs.hl] s (resetBitMem b s) := .one ..

theorem raiseBitMem_endsStoring (b : Nat) : EndsStoring [s.regs.hl] s (raiseBitMem b s) := .one ..

theorem push_endsStoring (k : StackReg) : EndsStoring (pushTargets s.regs.sp) s (push k s) :=
  ⟨_, push_next k s, .push16 (t := s.passed 1 16) (.cpu .refl _ _) _⟩

theorem restart_endsStoring (target : Word) : EndsStoring (pushTargets s.regs.sp) s (restart target s) :=
  ⟨_, restart_next target s, .cpu (.push16 (t := s.passed 1 16) (.cpu .refl _ _) _) _ _⟩

theorem call_endsStoring (nn : Word) : EndsStoring (pushTargets s.regs.sp) s (call nn s) :=
  ⟨_, call_next nn s, .cpu (.push16 (t := s.passed 3 24) (.cpu .refl _ _) _) _ _⟩

theorem rotateMem_endsStoring (op : RotOp) : EndsStoring [s.regs.hl] s (rotateMem op s) := .one ..

/-- R218: the low byte, then the high byte at the next address. -/
theorem storeSp_endsStoring (nn : Word) : EndsStoring [nn, nn + 1] s (storeSp nn s) :=
  ⟨_, rfl, .cpu (.write (.write (.cpu .refl _ (s.fetched 3).cpu) _ _ (by simp)) _ _ (by simp)) _ _⟩

end

section
variable (s : State) (cc : Cond)

theorem jumpIf_endsStoring (nn : Word) : EndsStoring [] s (jumpIf cc nn s) := by
  refine ⟨_, jumpIf_next cc nn s, ?_⟩
  split <;> exact .cpu .refl _ _

theorem jumpRelIf_endsStoring (e : Byte) : EndsStoring [] s (jumpRelIf cc e s) := by
  refine ⟨_, jumpRelIf_next cc e s, ?_⟩
  split <;> exact .cpu .refl _ _

theorem returnIf_endsStoring : EndsStoring [] s (returnIf cc s) := by
  refine ⟨_, returnIf_next cc s, ?_⟩
  split <;> exact .cpu .refl _ _

theorem callIf_endsStoring (nn : Word) :
    EndsStoring (if cc.holds s.regs.f then pushTargets s.regs.sp else []) s (callIf cc nn s) := by
  refine ⟨_, callIf_next cc nn s, ?_⟩
  split
  · exact .cpu (.push16 (t := s.passed 3 24) (.cpu .refl _ _) _) _ _
  · exact .cpu .refl _ _

theorem halt_endsStoring : EndsStoring [] s (halt s) := by
  unfold halt
  dsimp only
  split <;> exact .cpuOnly ..

theorem enableInterrupts_endsStoring : EndsStoring [] s (enableInterrupts s) := by
  unfold enableInterrupts
  dsimp only
  split <;> exact .cpuOnly ..

end

/-- R154: field value 6 is the byte at HL. -/
theorem regOfField_eq_none_iff (z : Nat) : regOfField z = none ↔ z = 6 := by
  unfold regOfField
  split <;> simp_all

/-- R349: the (HL) rows with x ≠ 1 store at HL. -/
theorem execPrefixCb_endsStoring (op2 : Byte) (s : State) :
    EndsStoring (storesTo (.prefixCb op2) s) s (execPrefixCb op2 s) := by
  have atHl (z : regOfField (op2.toNat % 8) = none) (x : op2.toNat / 64 ≠ 1) :
      storesTo (.prefixCb op2) s = [s.regs.hl] := if_pos ⟨(regOfField_eq_none_iff _).mp z, x⟩
  unfold execPrefixCb
  dsimp only
  split
  next => exact rotateReg_endsStoring ..
  next x z =>
    rw [atHl z (by omega)]
    exact rotateMem_endsStoring ..
  next => exact testBitReg_endsStoring ..
  next => exact testBitMem_endsStoring ..
  next => exact resetBitReg_endsStoring ..
  next x z =>
    rw [atHl z (by omega)]
    exact resetBitMem_endsStoring ..
  next => exact raiseBitReg_endsStoring ..
  next z _ x _ =>
    rw [atHl z x]
    exact raiseBitMem_endsStoring ..

/-- Every instruction ends in a next state and stores where `storesTo` says. -/
theorem exec_endsStoring (i : Sys2Proof.Instr) (s : State) : EndsStoring (storesTo i s) s (exec i s) := by
  cases i
  case prefixCb op2 => exact execPrefixCb_endsStoring op2 s
  case halt => exact halt_endsStoring s
  case ei => exact enableInterrupts_endsStoring s
  case jrNzE8 e => exact jumpRelIf_endsStoring s .nz e
  case jrZE8 e => exact jumpRelIf_endsStoring s .z e
  case jrNcE8 e => exact jumpRelIf_endsStoring s .nc e
  case jrCE8 e => exact jumpRelIf_endsStoring s .c e
  case jpNzA16 nn => exact jumpIf_endsStoring s .nz nn
  case jpZA16 nn => exact jumpIf_endsStoring s .z nn
  case jpNcA16 nn => exact jumpIf_endsStoring s .nc nn
  case jpCA16 nn => exact jumpIf_endsStoring s .c nn
  case retNz => exact returnIf_endsStoring s .nz
  case retZ => exact returnIf_endsStoring s .z
  case retNc => exact returnIf_endsStoring s .nc
  case retC => exact returnIf_endsStoring s .c
  case callNzA16 nn => exact callIf_endsStoring s .nz nn
  case callZA16 nn => exact callIf_endsStoring s .z nn
  case callNcA16 nn => exact callIf_endsStoring s .nc nn
  case callCA16 nn => exact callIf_endsStoring s .c nn
  case ldBB | ldBC | ldBD | ldBE | ldBH | ldBL | ldBA | ldCB | ldCC | ldCD | ldCE | ldCH | ldCL | ldCA | ldDB |
      ldDC | ldDD | ldDE | ldDH | ldDL | ldDA | ldEB | ldEC | ldED | ldEE | ldEH | ldEL | ldEA | ldHB | ldHC |
      ldHD | ldHE | ldHH | ldHL | ldHA | ldLB | ldLC | ldLD | ldLE | ldLH | ldLL | ldLA | ldAB | ldAC | ldAD |
      ldAE | ldAH | ldAL | ldAA =>
    exact loadReg_endsStoring ..
  case ldBD8 | ldCD8 | ldDD8 | ldED8 | ldHD8 | ldLD8 | ldAD8 => exact loadImm_endsStoring ..
  case ldBAtHl | ldCAtHl | ldDAtHl | ldEAtHl | ldHAtHl | ldLAtHl | ldAAtHl => exact loadFromHl_endsStoring ..
  case ldAAtBc | ldAAtDe | ldhAAtA8 | ldAAtC | ldAAtA16 => exact loadA_endsStoring ..
  case ldAAtHlInc | ldAAtHlDec => exact loadAStep_endsStoring ..
  case ldBcD16 | ldDeD16 | ldHlD16 | ldSpD16 => exact loadImm16_endsStoring ..
  case ldHlSpE8 => exact loadHlSpOffset_endsStoring ..
  case addAB | addAC | addAD | addAE | addAH | addAL | addAA | adcAB | adcAC | adcAD | adcAE | adcAH | adcAL |
      adcAA | subB | subC | subD | subE | subH | subL | subA | sbcAB | sbcAC | sbcAD | sbcAE | sbcAH | sbcAL |
      sbcAA | andB | andC | andD | andE | andH | andL | andA | xorB | xorC | xorD | xorE | xorH | xorL | xorA |
      orB | orC | orD | orE | orH | orL | orA | cpB | cpC | cpD | cpE | cpH | cpL | cpA =>
    exact aluReg_endsStoring ..
  case addAAtHl | adcAAtHl | subAtHl | sbcAAtHl | andAtHl | xorAtHl | orAtHl | cpAtHl => exact aluMem_endsStoring ..
  case addAD8 | adcAD8 | subD8 | sbcAD8 | andD8 | xorD8 | orD8 | cpD8 => exact aluImm_endsStoring ..
  case incB | incC | incD | incE | incH | incL | incA => exact incReg_endsStoring ..
  case decB | decC | decD | decE | decH | decL | decA => exact decReg_endsStoring ..
  case incBc | decBc | incDe | decDe | incHl | decHl | incSp | decSp => exact step16_endsStoring ..
  case addHlBc | addHlDe | addHlHl | addHlSp => exact addToHl_endsStoring ..
  case addSpE8 => exact addToSp_endsStoring ..
  case rlca => exact rotateA_endsStoring s .rlc
  case rrca => exact rotateA_endsStoring s .rrc
  case rla => exact rotateA_endsStoring s .rl
  case rra => exact rotateA_endsStoring s .rr
  case rlcB | rlcC | rlcD | rlcE | rlcH | rlcL | rlcA => exact rotateReg_endsStoring s .rlc _
  case rrcB | rrcC | rrcD | rrcE | rrcH | rrcL | rrcA => exact rotateReg_endsStoring s .rrc _
  case rlB | rlC | rlD | rlE | rlH | rlL | rlA => exact rotateReg_endsStoring s .rl _
  case rrB | rrC | rrD | rrE | rrH | rrL | rrA => exact rotateReg_endsStoring s .rr _
  case slaB | slaC | slaD | slaE | slaH | slaL | slaA => exact rotateReg_endsStoring s .sla _
  case sraB | sraC | sraD | sraE | sraH | sraL | sraA => exact rotateReg_endsStoring s .sra _
  case swapB | swapC | swapD | swapE | swapH | swapL | swapA => exact rotateReg_endsStoring s .swap _
  case srlB | srlC | srlD | srlE | srlH | srlL | srlA => exact rotateReg_endsStoring s .srl _
  case bit0B | bit0C | bit0D | bit0E | bit0H | bit0L | bit0A | bit1B | bit1C | bit1D | bit1E | bit1H | bit1L |
      bit1A | bit2B | bit2C | bit2D | bit2E | bit2H | bit2L | bit2A | bit3B | bit3C | bit3D | bit3E | bit3H |
      bit3L | bit3A | bit4B | bit4C | bit4D | bit4E | bit4H | bit4L | bit4A | bit5B | bit5C | bit5D | bit5E |
      bit5H | bit5L | bit5A | bit6B | bit6C | bit6D | bit6E | bit6H | bit6L | bit6A | bit7B | bit7C | bit7D |
      bit7E | bit7H | bit7L | bit7A =>
    exact testBitReg_endsStoring ..
  case bit0AtHl | bit1AtHl | bit2AtHl | bit3AtHl | bit4AtHl | bit5AtHl | bit6AtHl | bit7AtHl =>
    exact testBitMem_endsStoring ..
  case res0B | res0C | res0D | res0E | res0H | res0L | res0A | res1B | res1C | res1D | res1E | res1H | res1L |
      res1A | res2B | res2C | res2D | res2E | res2H | res2L | res2A | res3B | res3C | res3D | res3E | res3H |
      res3L | res3A | res4B | res4C | res4D | res4E | res4H | res4L | res4A | res5B | res5C | res5D | res5E |
      res5H | res5L | res5A | res6B | res6C | res6D | res6E | res6H | res6L | res6A | res7B | res7C | res7D |
      res7E | res7H | res7L | res7A =>
    exact resetBitReg_endsStoring ..
  case set0B | set0C | set0D | set0E | set0H | set0L | set0A | set1B | set1C | set1D | set1E | set1H | set1L |
      set1A | set2B | set2C | set2D | set2E | set2H | set2L | set2A | set3B | set3C | set3D | set3E | set3H |
      set3L | set3A | set4B | set4C | set4D | set4E | set4H | set4L | set4A | set5B | set5C | set5D | set5E |
      set5H | set5L | set5A | set6B | set6C | set6D | set6E | set6H | set6L | set6A | set7B | set7C | set7D |
      set7E | set7H | set7L | set7A =>
    exact raiseBitReg_endsStoring ..
  case popBc | popDe | popHl | popAf => exact pop_endsStoring ..
  case ret => exact returnTop_endsStoring ..
  case reti => exact execReti_endsStoring s
  case ldAtHlB | ldAtHlC | ldAtHlD | ldAtHlE | ldAtHlH | ldAtHlL | ldAtHlA => exact storeToHl_endsStoring ..
  case ldAtHlD8 => exact storeImmToHl_endsStoring ..
  case ldAtHlIncA | ldAtHlDecA => exact storeAStep_endsStoring ..
  case ldAtBcA | ldAtDeA | ldhAtA8A | ldAtCA | ldAtA16A => exact storeA_endsStoring ..
  case ldAtA16Sp => exact storeSp_endsStoring ..
  case incAtHl => exact incMem_endsStoring ..
  case decAtHl => exact decMem_endsStoring ..
  case rlcAtHl => exact rotateMem_endsStoring s .rlc
  case rrcAtHl => exact rotateMem_endsStoring s .rrc
  case rlAtHl => exact rotateMem_endsStoring s .rl
  case rrAtHl => exact rotateMem_endsStoring s .rr
  case slaAtHl => exact rotateMem_endsStoring s .sla
  case sraAtHl => exact rotateMem_endsStoring s .sra
  case swapAtHl => exact rotateMem_endsStoring s .swap
  case srlAtHl => exact rotateMem_endsStoring s .srl
  case res0AtHl | res1AtHl | res2AtHl | res3AtHl | res4AtHl | res5AtHl | res6AtHl | res7AtHl =>
    exact resetBitMem_endsStoring ..
  case set0AtHl | set1AtHl | set2AtHl | set3AtHl | set4AtHl | set5AtHl | set6AtHl | set7AtHl =>
    exact raiseBitMem_endsStoring ..
  case pushBc | pushDe | pushHl | pushAf => exact push_endsStoring ..
  case rst00 | rst08 | rst10 | rst18 | rst20 | rst28 | rst30 | rst38 => exact restart_endsStoring ..
  case callA16 => exact call_endsStoring ..
  all_goals exact .cpuOnly ..

/-- Settles O32: an instruction's stores are those of `storesTo`, and no other change of its shows to a read. -/
theorem instructionMemoryFrame : Obligations.InstructionMemoryFrame := by
  intro i s t b h away
  obtain ⟨u, next, stores⟩ := exec_endsStoring i s
  rw [next] at h
  cases h
  exact stores.read_eq away

end Sys2Proof.Machine
end

section
/-! PROOFS. The decoder and the encoder are inverse to each other (R150 to R166), and the step runs what is decoded. -/

namespace Sys2Proof

open Sys2Proof.Machine Sys2Proof.Claims

/-! ### The bytes of a word -/

@[simp] theorem loByte_wordOf (hi lo : Byte) : loByte (wordOf hi lo) = lo := by
  rw [loByte_eq, wordOf_toNat]
  bv_omega

@[simp] theorem hiByte_wordOf (hi lo : Byte) : hiByte (wordOf hi lo) = hi := by
  rw [hiByte_eq, wordOf_toNat]
  bv_omega

/-! ### The operand bytes -/

theorem opcodeLength_cases (op : Byte) : opcodeLength op = 1 ∨ opcodeLength op = 2 ∨ opcodeLength op = 3 := by
  unfold opcodeLength
  split
  · exact .inr (.inr rfl)
  · split
    · exact .inr (.inl rfl)
    · exact .inl rfl

/-- The bytes after the opcode of an instruction of `len` bytes, a word as `encode` writes it (R84, R150). -/
def operandBytes (len : Nat) (b1 b2 : Byte) : List Byte :=
  match len with
  | 2 => [b1]
  | 3 => [loByte (wordOf b2 b1), hiByte (wordOf b2 b1)]
  | _ => []

/-- The operands of the decoder are the bytes after the opcode. -/
theorem operandBytes_getD {op : Byte} {rest : List Byte} (enough : opcodeLength op ≤ rest.length + 1) :
    operandBytes (opcodeLength op) (rest.getD 0 0) (rest.getD 1 0) = rest.take (opcodeLength op - 1) := by
  obtain h | h | h := opcodeLength_cases op <;> rw [h] at enough ⊢
  · rfl
  · obtain _ | ⟨b1, rest⟩ := rest
    · simp at enough
    · rfl
  · obtain _ | ⟨b1, _ | ⟨b2, rest⟩⟩ := rest
    · simp at enough
    · simp at enough
    · simp [operandBytes]

/-! ### The two maps against the encoder -/

theorem Byte.exists_ofNat (b : Byte) : ∃ n < 256, b = BitVec.ofNat 8 n := ⟨b.toNat, b.isLt, by simp⟩

/-- R166: every row of the CB map is well formed and encodes to its own bytes. -/
theorem decodeCb_row (op2 : Byte) : WellFormed (decodeCb op2) ∧ encode (decodeCb op2) = [0xCB, op2] := by
  obtain ⟨n, small, rfl⟩ := Byte.exists_ofNat op2
  interval_cases n <;> exact ⟨rfl, rfl⟩

/-- R165: every row of the primary map is well formed and encodes to its own bytes. -/
theorem decodeBytes_row (op b1 b2 : Byte) : WellFormed (decodeBytes op b1 b2) ∧
    encode (decodeBytes op b1 b2) = op :: operandBytes (opcodeLength op) b1 b2 := by
  obtain ⟨n, small, rfl⟩ := Byte.exists_ofNat op
  obtain below | rfl | above := Nat.lt_trichotomy n 0xCB
  · interval_cases n <;> exact ⟨rfl, rfl⟩
  · exact decodeCb_row b1
  · interval_cases n <;> exact ⟨rfl, rfl⟩

/-- R150, R165, R166: the bytes are an opcode that selects the instruction's row, and the operands that the row has. -/
inductive Instr.HasBytes (i : Instr) : List Byte → Prop where
  | one {op : Byte} (len : opcodeLength op = 1) (row : ∀ b1 b2, decodeBytes op b1 b2 = i) : HasBytes i [op]
  | two {op b1 : Byte} (len : opcodeLength op = 2) (row : ∀ b2, decodeBytes op b1 b2 = i) : HasBytes i [op, b1]
  | three {op b1 b2 : Byte} (len : opcodeLength op = 3) (row : decodeBytes op b1 b2 = i) : HasBytes i [op, b1, b2]

/-- R84: a word operand is read low byte first. -/
theorem Instr.HasBytes.word {i : Word → Instr} {op : Byte} {nn : Word} (len : opcodeLength op = 3)
    (row : ∀ lo hi, decodeBytes op lo hi = i (wordOf hi lo)) : (i nn).HasBytes [op, loByte nn, hiByte nn] :=
  .three len (by rw [row, wordOf_hiByte_loByte])

theorem Instr.HasBytes.decode_append {i : Instr} {bytes : List Byte} (h : i.HasBytes bytes) (rest : List Byte) :
    decode (bytes ++ rest) = .ok (i, rest) := by
  cases h with
  | one len row => simp [decode, len, row]
  | two len row => simp [decode, len, row]
  | three len row => simp [decode, len, row]

/-- R162: a word operand is put together from its two bytes; every other operand is the byte itself. -/
theorem encode_hasBytes {i : Instr} (wf : WellFormed i) : i.HasBytes (encode i) := by
  cases i
  case prefixCb => cases wf
  case ldBcD16 | ldAtA16Sp | ldDeD16 | ldHlD16 | ldSpD16 | jpNzA16 | jpA16 | callNzA16 | jpZA16 | callZA16 |
      callA16 | jpNcA16 | callNcA16 | jpCA16 | callCA16 | ldAtA16A | ldAAtA16 =>
    exact .word rfl fun _ _ => rfl
  all_goals constructor <;> intros <;> rfl

/-! ### The decoder -/

/-- What a successful decoding has read. -/
theorem decode_eq_ok {bytes rest : List Byte} {i : Instr} (h : decode bytes = .ok (i, rest)) :
    ∃ op tail, bytes = op :: tail ∧ opcodeLength op ≤ tail.length + 1 ∧
      i = decodeBytes op (tail.getD 0 0) (tail.getD 1 0) ∧ rest = tail.drop (opcodeLength op - 1) := by
  cases bytes with
  | nil => cases h
  | cons op tail =>
    simp only [decode] at h
    split at h
    next => cases h
    next enough =>
      cases h
      exact ⟨op, tail, rfl, by omega, rfl, rfl⟩

/-- Settles O1: the encoding is an opcode that selects the instruction, with the operands its row takes. -/
theorem decodeOfEncode : Obligations.DecodeOfEncode :=
  fun _ rest wf => (encode_hasBytes wf).decode_append rest

/-- Settles O2: the row of the opcode is well formed, and its operands are the bytes read after the opcode. -/
theorem encodeOfDecode : Obligations.EncodeOfDecode := by
  intro bytes rest i h
  obtain ⟨op, tail, rfl, enough, rfl, rfl⟩ := decode_eq_ok h
  obtain ⟨wf, encoded⟩ := decodeBytes_row op (tail.getD 0 0) (tail.getD 1 0)
  refine ⟨wf, ?_⟩
  rw [encoded, operandBytes_getD enough, List.cons_append, List.take_append_drop]

/-! ### The illegal opcodes -/

/-- R163: an illegal instruction is its opcode alone. -/
theorem encode_illegal {op : Byte} {i : Instr} (h : (op, i) ∈ Forms.illegal) : WellFormed i ∧ encode i = [op] := by
  have all : ∀ row ∈ Forms.illegal, WellFormed row.2 ∧ encode row.2 = [row.1] := by decide
  exact all _ h

/-- Settles O4: an illegal instruction's encoding is its opcode alone, and the encoding of a decoded one begins with the
opcode read. -/
theorem illegalOpcodesExactly : Obligations.IllegalOpcodesExactly := by
  refine ⟨fun op i h b1 b2 => ?_, fun op b1 b2 o h => ?_, rfl⟩
  · obtain ⟨wf, alone⟩ := encode_illegal h
    have selects := encode_hasBytes wf
    rw [alone] at selects
    cases selects with
    | one _ row => exact row b1 b2
  · have same : op :: operandBytes (opcodeLength op) b1 b2 = [o] :=
      (decodeBytes_row op b1 b2).2.symm.trans (encode_illegal h).2
    exact (List.head_eq_of_cons_eq same).symm

/-! ### Words of the opcode table -/

/-- Settles O3: each word selects its row of the two maps. -/
theorem decodedWords : Obligations.DecodedWords := by
  unfold Obligations.DecodedWords
  decide

/-! ### The step -/

/-- R400, R531: the step of a machine that executes an instruction. -/
theorem step_of_runs {s t : State} (cart : s.cart ≠ none) (runs : Runs s) (next : exec s.fetchInstr s = .next t) :
    step s = .next (t.afterInstr.advanceBy (t.cpu.cycles - s.cpu.cycles)) := by
  obtain ⟨fault, quiet, halted⟩ := runs
  have idle : (if s.cpu.ime then s.irq.first else none) = none := by
    obtain ime | pending := quiet
    · simp [ime]
    · simp [Irq.first, pending]
  obtain ⟨c, after, cycles⟩ := t.afterInstr_eq
  have ran : cpuStep s = .next t.afterInstr := by simp [cpuStep, runInstr, fault, halted, idle, next]
  have counted : t.afterInstr.cpu.cycles = t.cpu.cycles := by rw [after, cycles]
  simp only [step, systemStep, if_neg cart, ran, counted]

/-- Settles O5: the instruction decoded is the one fetched. -/
theorem stepRunsDecoded : Obligations.StepRunsDecoded := by
  intro s i rest cart runs h
  obtain ⟨op, tail, bytes, -, rfl, -⟩ := decode_eq_ok h
  cases bytes
  exact ⟨(decodeBytes_row ..).1, fun t next => step_of_runs cart runs next⟩

end Sys2Proof
end

section
/-! PROOFS. The loads (R200 to R220) and ADD SP,e8 (R273): each opcode selects its row, and the row's meaning is one of the
shared forms, whose next state the support lemmas give. -/

namespace Sys2Proof

open Sys2Proof.Machine Sys2Proof.Claims

/-! ### The spec's arithmetic on addresses and on SP -/

/-- R207 to R210: the address `0xFF00 + n`. -/
theorem highPage_eq (n : Byte) : highPage n = BitVec.ofNat 16 (0xFF00 + n.toNat) := by
  apply BitVec.eq_of_toNat_eq
  rw [highPage, wordOf_toNat, BitVec.toNat_ofNat]
  bv_omega

theorem sext8_eq_ofInt (u : Byte) : sext8 u = BitVec.ofInt 16 u.toInt := rfl

/-- R220, R273: adding the sign-extended byte is the signed sum modulo 65536. -/
theorem addSpOffset_rule (sp : Word) (u : Byte) : SpOffsetRule sp (addSpOffset sp u).1 u (addSpOffset sp u).2 := by
  have signed : ((sp + sext8 u).toNat : Int) = ((sp.toNat : Int) + u.toInt) % 65536 := by
    rw [sext8_eq_ofInt, BitVec.toNat_add, BitVec.toNat_ofInt]
    omega
  exact ⟨signed, rfl⟩

/-! ### The obligations -/

/-- Settles O7: every row is a register copy, an immediate load or a load through HL. -/
theorem loadsToRegister : Obligations.LoadsToRegister := by
  refine ⟨fun op i dst src row b1 b2 s => ?copy, fun op i dst row n b2 s => ?immediate,
    fun op i dst row b1 b2 s => ?throughHl⟩
  case copy =>
    obtain low | high := List.mem_append.mp row
    · fin_cases low <;> exact ⟨rfl, loadReg_next ..⟩
    · fin_cases high <;> exact ⟨rfl, loadReg_next ..⟩
  case immediate => fin_cases row <;> exact ⟨rfl, loadImm_next ..⟩
  case throughHl => fin_cases row <;> exact ⟨rfl, loadFromHl_next ..⟩

/-- Settles O8: the rows store a register through HL, and opcode 0x36 stores its operand. -/
theorem storesThroughHl : Obligations.StoresThroughHl := by
  refine ⟨fun op i src row b1 b2 s => ?register, fun n b2 s => ?immediate⟩
  case register => fin_cases row <;> exact ⟨rfl, storeToHl_next ..⟩
  case immediate => exact ⟨rfl, storeImmToHl_next ..⟩

/-- Settles O11: the bytes stored of SP are its remainder and quotient by 256. -/
theorem wordLoads : Obligations.WordLoads := by
  refine ⟨fun op i dst row lo hi s => ?immediate, fun lo hi s => ?storeSp, fun b1 b2 s => ?copy⟩
  case immediate => fin_cases row <;> exact ⟨rfl, loadImm16_next ..⟩
  case storeSp =>
    rw [← loByte_eq, ← hiByte_eq]
    exact ⟨rfl, storeSp_next ..⟩
  case copy => exact ⟨rfl, loadSpHl_next s⟩

/-- Settles O12: both instructions use the one sum of `addSpOffset`. -/
theorem stackPointerOffset : Obligations.StackPointerOffset := by
  intro e b2 s
  have sum := addSpOffset_rule s.regs.sp e
  exact ⟨⟨rfl, _, _, sum, loadHlSpOffset_next e s⟩, ⟨rfl, _, _, sum, addToSp_next e s⟩⟩

/-- Settles O9: every row is a load or a store of A, at a register pair, a word operand or a high-page address. -/
theorem transfersOfA : Obligations.TransfersOfA := by
  intro s b1 b2 n lo hi
  rw [← highPage_eq n, ← highPage_eq s.regs.c]
  exact ⟨⟨rfl, loadA_next 8 s.regs.bc s (by decide)⟩, ⟨rfl, loadA_next 8 s.regs.de s (by decide)⟩,
    ⟨rfl, loadA_next 16 _ s (by decide)⟩, ⟨rfl, loadA_next 12 _ s (by decide)⟩, ⟨rfl, loadA_next 8 _ s (by decide)⟩,
    ⟨rfl, storeA_next 8 s.regs.bc s (by decide)⟩, ⟨rfl, storeA_next 8 s.regs.de s (by decide)⟩,
    ⟨rfl, storeA_next 16 _ s (by decide)⟩, ⟨rfl, storeA_next 12 _ s (by decide)⟩,
    ⟨rfl, storeA_next 8 _ s (by decide)⟩⟩

/-- Settles O10: HL moves by `1` or by `-1`, after the access. -/
theorem hlStepping : Obligations.HlStepping := by
  intro s b1 b2
  rw [BitVec.sub_eq_add_neg]
  exact ⟨⟨rfl, loadAStep_next 1 s⟩, ⟨rfl, loadAStep_next (-1) s⟩, ⟨rfl, storeAStep_next 1 s⟩,
    ⟨rfl, storeAStep_next (-1) s⟩⟩

end Sys2Proof
end

section
/-! PROOFS. The operations on A (R242 to R265), INC and DEC (R266 to R269) and the 16-bit arithmetic (R270 to R272): the
results and flags in the spec's own arithmetic, and each opcode's row as one of the shared forms. -/

namespace Sys2Proof

open Sys2Proof.Machine Sys2Proof.Claims

/-! ### Results as numbers -/

theorem Byte.beq_zero_eq_decide (v : Byte) : (v == 0) = decide (v.toNat = 0) := by
  rw [Bool.eq_iff_iff, beq_iff_eq, decide_eq_true_iff, ← BitVec.toNat_inj]
  rfl

theorem bit_le_one (c : Bool) : bit c ≤ 1 := by
  cases c <;> decide

theorem bitByte_toNat (c : Bool) : (bitByte c).toNat = bit c := by
  cases c <;> rfl

/-- R242, R245: the sum modulo 256. -/
theorem add8_toNat (a n : Byte) (c : Bool) : (add8 a n c).1.toNat = (a.toNat + n.toNat + bit c) % 256 :=
  BitVec.toNat_ofNat ..

/-- R248, R251: the difference modulo 256. -/
theorem sub8_toNat (a n : Byte) (c : Bool) : (sub8 a n c).1.toNat = (a.toNat + 512 - n.toNat - bit c) % 256 := by
  have small := bit_le_one c
  have byte := n.isLt
  simp only [sub8, BitVec.toNat_sub, bitByte_toNat]
  omega

theorem sub8_noBorrow_toNat (a n : Byte) : (sub8 a n false).1.toNat = (a.toNat + 256 - n.toNat) % 256 := by
  have byte := n.isLt
  have noBorrow : bit false = 0 := rfl
  rw [sub8_toNat, noBorrow]
  omega

/-! ### The eight operations on A -/

section
variable (op : AluOp) (a n : Byte) (f : Flags)

/-- R242 to R265: the value written to A; CP keeps A. -/
theorem aluApply_toNat : (op.apply a n f).1.toNat =
    if op = .cp then a.toNat else aluValue op a.toNat n.toNat (bit f.c) := by
  cases op with
  | add => exact add8_toNat a n false
  | adc => exact add8_toNat a n f.c
  | sub => exact sub8_noBorrow_toNat a n
  | sbc => exact sub8_toNat a n f.c
  | and => exact BitVec.toNat_and ..
  | xor => exact BitVec.toNat_xor ..
  | or => exact BitVec.toNat_or ..
  | cp => rfl

/-- Z tells whether the result is 0, also where CP discards it. -/
theorem aluApply_z : (op.apply a n f).2.z = decide (aluValue op a.toNat n.toNat (bit f.c) = 0) := by
  have written (o : AluOp) (keeps : o ≠ .cp) (zero : (o.apply a n f).2.z = ((o.apply a n f).1 == 0)) :
      (o.apply a n f).2.z = decide (aluValue o a.toNat n.toNat (bit f.c) = 0) := by
    rw [zero, Byte.beq_zero_eq_decide, aluApply_toNat, if_neg keeps]
  cases op
  case cp => exact written .sub (by decide) rfl
  all_goals exact written _ (by decide) rfl

theorem aluApply_n : (op.apply a n f).2.n = aluSubtracts op := by
  cases op <;> rfl

theorem aluApply_h : (op.apply a n f).2.h = aluHalf op a.toNat n.toNat (bit f.c) := by
  cases op <;> rfl

theorem aluApply_c : (op.apply a n f).2.c = aluCarry op a.toNat n.toNat (bit f.c) := by
  cases op <;> rfl

end

/-- R242 to R265: the state that differs in A and F alone, which hold the operation's result and flags. -/
theorem aluDone_apply (op : AluOp) (operand : Byte) (len n : Nat) (s : State) :
    AluDone op operand len n s (.next (((s.passed len n).setReg8 .a (op.apply s.regs.a operand s.regs.f).1).setFlags
      (op.apply s.regs.a operand s.regs.f).2)) :=
  ⟨_, _, rfl, aluApply_toNat .., aluApply_z .., aluApply_n .., aluApply_h .., aluApply_c ..⟩

theorem aluDone_aluReg (op : AluOp) (src : Reg8) (s : State) : AluDone op (s.regs.get8 src) 1 4 s (aluReg op src s) := by
  rw [aluReg_next]
  exact aluDone_apply ..

theorem aluDone_aluMem (op : AluOp) (s : State) : AluDone op (s.read s.regs.hl) 1 8 s (aluMem op s) := by
  rw [aluMem_next]
  exact aluDone_apply ..

theorem aluDone_aluImm (op : AluOp) (n : Byte) (s : State) : AluDone op n 2 8 s (aluImm op n s) := by
  rw [aluImm_next]
  exact aluDone_apply ..

/-! ### The rows of the operations on A -/

theorem aluReg_row {op : Byte} {i : Instr} {alu : AluOp} {src : Reg8}
    (row : (op, i, alu, src) ∈ Forms.arithReg ∨ (op, i, alu, src) ∈ Forms.logicReg) (b1 b2 : Byte) (s : State) :
    decodeBytes op b1 b2 = i ∧ AluDone alu (s.regs.get8 src) 1 4 s (exec i s) := by
  obtain arith | logic := row
  · fin_cases arith <;> exact ⟨rfl, aluDone_aluReg ..⟩
  · fin_cases logic <;> exact ⟨rfl, aluDone_aluReg ..⟩

theorem aluMem_row {op : Byte} {i : Instr} {alu : AluOp}
    (row : (op, i, alu) ∈ Forms.arithMem ∨ (op, i, alu) ∈ Forms.logicMem) (b1 b2 : Byte) (s : State) :
    decodeBytes op b1 b2 = i ∧ AluDone alu (s.read s.regs.hl) 1 8 s (exec i s) := by
  obtain arith | logic := row
  · fin_cases arith <;> exact ⟨rfl, aluDone_aluMem ..⟩
  · fin_cases logic <;> exact ⟨rfl, aluDone_aluMem ..⟩

theorem aluImm_row {op : Byte} {i : Byte → Instr} {alu : AluOp}
    (row : (op, i, alu) ∈ Forms.arithImm ∨ (op, i, alu) ∈ Forms.logicImm) (n b2 : Byte) (s : State) :
    decodeBytes op n b2 = i n ∧ AluDone alu n 2 8 s (exec (i n) s) := by
  obtain arith | logic := row
  · fin_cases arith <;> exact ⟨rfl, aluDone_aluImm ..⟩
  · fin_cases logic <;> exact ⟨rfl, aluDone_aluImm ..⟩

/-! ### INC, DEC and ADD HL -/

/-- R266. -/
theorem inc8_rule (old : Byte) (f : Flags) : IncRule old (inc8 old f).1 f (inc8 old f).2 := by
  refine ⟨BitVec.toNat_add .., ?_⟩
  rw [← Byte.beq_zero_eq_decide]
  rfl

/-- R268. -/
theorem dec8_rule (old : Byte) (f : Flags) : DecRule old (dec8 old f).1 f (dec8 old f).2 := by
  have value : (old - 1).toNat = (old.toNat + 255) % 256 := by
    rw [BitVec.toNat_sub, Nat.add_comm]
    rfl
  refine ⟨value, ?_⟩
  rw [← Byte.beq_zero_eq_decide]
  rfl

/-- R270: the sum modulo 65536. -/
theorem addHl_fst (hl rr : Word) (f : Flags) :
    (addHl hl rr f).1 = BitVec.ofNat 16 ((hl.toNat + rr.toNat) % 65536) := by
  apply BitVec.eq_of_toNat_eq
  simp [addHl]

/-! ### The obligations -/

/-- Settles O13, by the rows of `arithReg`, `arithMem` and `arithImm`. -/
theorem arithmeticOnA : Obligations.ArithmeticOnA :=
  ⟨fun _ _ _ _ row => aluReg_row (.inl row), fun _ _ _ row => aluMem_row (.inl row),
    fun _ _ _ row => aluImm_row (.inl row)⟩

/-- Settles O14, by the rows of `logicReg`, `logicMem` and `logicImm`. -/
theorem logicOnA : Obligations.LogicOnA :=
  ⟨fun _ _ _ _ row => aluReg_row (.inr row), fun _ _ _ row => aluMem_row (.inr row),
    fun _ _ _ row => aluImm_row (.inr row)⟩

/-- Settles O15: every row increments or decrements a register, and opcodes 0x34 and 0x35 the byte at HL. -/
theorem incrementDecrement : Obligations.IncrementDecrement := by
  refine ⟨fun op i k row b1 b2 s => ?increment, fun op i k row b1 b2 s => ?decrement, fun b1 b2 s => ?incrementAtHl,
    fun b1 b2 s => ?decrementAtHl⟩
  case increment => fin_cases row <;> exact ⟨rfl, _, _, inc8_rule .., incReg_next ..⟩
  case decrement => fin_cases row <;> exact ⟨rfl, _, _, dec8_rule .., decReg_next ..⟩
  case incrementAtHl => exact ⟨rfl, _, _, inc8_rule .., incMem_next s⟩
  case decrementAtHl => exact ⟨rfl, _, _, dec8_rule .., decMem_next s⟩

/-- Settles O16: a pair moves by `1` or by `-1`, and ADD HL takes the sum modulo 65536. -/
theorem wordArithmetic : Obligations.WordArithmetic := by
  refine ⟨fun op i k row b1 b2 s => ?addHl, fun op i k row b1 b2 s => ?increment, fun op i k row b1 b2 s => ?decrement⟩
  case addHl =>
    rw [← addHl_fst _ _ s.regs.f]
    fin_cases row <;> exact ⟨rfl, addToHl_next ..⟩
  case increment => fin_cases row <;> exact ⟨rfl, step16_next _ 1 s⟩
  case decrement =>
    rw [BitVec.sub_eq_add_neg]
    fin_cases row <;> exact ⟨rfl, step16_next _ (-1) s⟩

end Sys2Proof
end

section
/-! PROOFS. The rotates, shifts and SWAP (R280 to R299) and BIT, RES and SET (R300 to R305): results and flags in the spec's
own arithmetic, and each row as one of the shared forms. -/

namespace Sys2Proof

open Sys2Proof.Machine Sys2Proof.Claims

/-! ### The bits moved, as numbers -/

theorem bit_getLsbD_seven (v : Byte) : bit (v.getLsbD 7) = v.toNat / 128 := by
  have byte := v.isLt
  rw [getLsbD_seven, bit]
  split_ifs with high <;> rw [decide_eq_true_iff] at high <;> omega

theorem bit_getLsbD_zero (v : Byte) : bit (v.getLsbD 0) = v.toNat % 2 := by
  rw [getLsbD_zero, bit]
  split_ifs with odd <;> rw [decide_eq_true_iff] at odd <;> omega

theorem shiftLeft_one_toNat (v : Byte) : (v <<< 1).toNat = 2 * v.toNat % 256 := by
  rw [BitVec.toNat_shiftLeft, Nat.shiftLeft_eq, Nat.mul_comm]

theorem shiftRight_one_toNat (v : Byte) : (v >>> 1).toNat = v.toNat / 2 := by
  rw [BitVec.toNat_ushiftRight, Nat.shiftRight_eq_div_pow]

theorem bitByte_shiftLeft_seven_toNat (c : Bool) : (bitByte c <<< 7).toNat = 128 * bit c := by
  cases c <;> rfl

/-- Joining the bits from `i` up with the bits below `i` is adding them. -/
theorem or_toNat_of_high_low {high low : Byte} {i k : Nat} (above : high.toNat = 2 ^ i * k) (below : low.toNat < 2 ^ i) :
    (high ||| low).toNat = high.toNat + low.toNat := by
  rw [BitVec.toNat_or, above, Nat.two_pow_add_eq_or_of_lt below]

/-- R284, R288: a left move that takes `c` in at bit 0. -/
theorem shiftLeft_or_bit_toNat (v : Byte) (c : Bool) : ((v <<< 1) ||| bitByte c).toNat = (2 * v.toNat + bit c) % 256 := by
  have small := bit_le_one c
  have above : (v <<< 1).toNat = 2 ^ 1 * (v.toNat % 128) := by
    rw [shiftLeft_one_toNat]
    omega
  have below : (bitByte c).toNat < 2 ^ 1 := by
    rw [bitByte_toNat]
    omega
  rw [or_toNat_of_high_low above below, above, bitByte_toNat]
  omega

/-- R286, R290, R294: a right move that takes `c` in at bit 7. -/
theorem shiftRight_or_bit_toNat (v : Byte) (c : Bool) :
    ((v >>> 1) ||| (bitByte c <<< 7)).toNat = v.toNat / 2 + 128 * bit c := by
  have byte := v.isLt
  have below : (v >>> 1).toNat < 2 ^ 7 := by
    rw [shiftRight_one_toNat]
    omega
  rw [BitVec.or_comm, or_toNat_of_high_low (bitByte_shiftLeft_seven_toNat c) below, bitByte_shiftLeft_seven_toNat,
    shiftRight_one_toNat, Nat.add_comm]

/-- R294: the arithmetic shift takes in the sign bit it keeps. -/
theorem sra8_toNat (v : Byte) (c : Bool) : (sra8 v c).1.toNat = v.toNat / 2 + 128 * (v.toNat / 128) := by
  have sign : v &&& (0x80 : Byte) = bitByte (v.getLsbD 7) <<< 7 := by
    refine (BitVec.and_twoPow v 7).trans ?_
    cases v.getLsbD 7 <;> rfl
  rw [sra8, sign, shiftRight_or_bit_toNat, bit_getLsbD_seven]

/-- R296. -/
theorem swap8_toNat (v : Byte) (c : Bool) : (swap8 v c).1.toNat = v.toNat % 16 * 16 + v.toNat / 16 := by
  have byte := v.isLt
  have above : ((v &&& 0x0F) <<< 4).toNat = 2 ^ 4 * (v.toNat % 16) := by
    rw [and_0x0F_eq, BitVec.toNat_shiftLeft, Nat.shiftLeft_eq, BitVec.toNat_ofNat]
    omega
  have low : (v >>> 4).toNat = v.toNat / 16 := by
    rw [BitVec.toNat_ushiftRight, Nat.shiftRight_eq_div_pow]
  have below : (v >>> 4).toNat < 2 ^ 4 := by
    rw [low]
    omega
  rw [swap8, or_toNat_of_high_low above below, above, low]
  omega

/-! ### The eight operations -/

section
variable (op : RotOp) (v : Byte) (c : Bool)

/-- R284 to R299: the result. -/
theorem rotApply_toNat : (op.apply v c).1.toNat = rotValue op v.toNat (bit c) := by
  cases op with
  | rlc => exact (shiftLeft_or_bit_toNat ..).trans (by rw [bit_getLsbD_seven, rotValue])
  | rrc => exact (shiftRight_or_bit_toNat ..).trans (by rw [bit_getLsbD_zero, rotValue])
  | rl => exact shiftLeft_or_bit_toNat ..
  | rr => exact shiftRight_or_bit_toNat ..
  | sla => exact shiftLeft_one_toNat v
  | sra => exact sra8_toNat v c
  | swap => exact swap8_toNat v c
  | srl => exact shiftRight_one_toNat v

/-- R284 to R299: the bit shifted out. -/
theorem rotApply_out : (op.apply v c).2 = rotOut op v.toNat := by
  cases op with
  | rlc | rl | sla => exact getLsbD_seven v
  | rrc | rr | sra | srl => exact getLsbD_zero v
  | swap => rfl

end

/-- R284 to R299: the flags, Z per result. -/
theorem rotResult_rule (op : RotOp) (old : Byte) (f : Flags) : RotRule op old (op.result old f).1 f (op.result old f).2 := by
  refine ⟨rotApply_toNat .., ?_⟩
  rw [← Byte.beq_zero_eq_decide, ← rotApply_out op old f.c]
  rfl

/-! ### BIT, RES and SET of a byte -/

/-- R300. -/
theorem bitFlags_eq_bitRule (v : Byte) (b : Nat) (f : Flags) : bitFlags v b f = bitRule b v f := by
  have zero : (!v.getLsbD b) = decide (v.toNat / 2 ^ b % 2 = 0) := by
    rw [getLsbD_eq_div_mod, ← decide_not, decide_eq_decide, Nat.mod_two_not_eq_one]
  rw [bitFlags, bitRule, zero]

/-- R302, R304: the mask of bit `b`. -/
theorem one_shiftLeft_getLsbD (b : Nat) {i : Nat} (h : i < 8) : (1#8 <<< b).getLsbD i = decide (i = b) := by
  rw [← BitVec.twoPow_eq, BitVec.getLsbD_twoPow, Bool.eq_iff_iff]
  simp only [Bool.and_eq_true, decide_eq_true_eq]
  omega

/-- R302. -/
theorem resBit_put (v : Byte) (b : Nat) : BitPut b false v (resBit v b) := by
  intro i h
  rw [resBit, BitVec.getLsbD_and, BitVec.getLsbD_not, one_shiftLeft_getLsbD b h]
  by_cases put : i = b <;> simp [put, h]

/-- R304. -/
theorem setBit_put (v : Byte) (b : Nat) : BitPut b true v (setBit v b) := by
  intro i h
  rw [setBit, BitVec.getLsbD_or, one_shiftLeft_getLsbD b h]
  by_cases put : i = b <;> simp [put]

/-! ### The rows -/

section
variable {op : Byte} {i : Instr} {rot : RotOp} {b : Nat} {k : Reg8} (b2 : Byte) (s : State)

theorem rotReg_row (row : (op, i, rot, k) ∈ Forms.rotReg) :
    decodeBytes 0xCB op b2 = i ∧ exec i s = rotateReg rot k s := by
  obtain row | row := List.mem_append.mp row <;> fin_cases row <;> exact ⟨rfl, rfl⟩

theorem rotMem_row (row : (op, i, rot) ∈ Forms.rotMem) : decodeBytes 0xCB op b2 = i ∧ exec i s = rotateMem rot s := by
  fin_cases row <;> exact ⟨rfl, rfl⟩

theorem bitReg_row (row : (op, i, b, k) ∈ Forms.bitReg) : decodeBytes 0xCB op b2 = i ∧ exec i s = testBitReg b k s := by
  obtain row | row := List.mem_append.mp row <;> fin_cases row <;> exact ⟨rfl, rfl⟩

theorem bitMem_row (row : (op, i, b) ∈ Forms.bitMem) : decodeBytes 0xCB op b2 = i ∧ exec i s = testBitMem b s := by
  fin_cases row <;> exact ⟨rfl, rfl⟩

theorem resReg_row (row : (op, i, b, k) ∈ Forms.resReg) : decodeBytes 0xCB op b2 = i ∧ exec i s = resetBitReg b k s := by
  obtain row | row := List.mem_append.mp row <;> fin_cases row <;> exact ⟨rfl, rfl⟩

theorem resMem_row (row : (op, i, b) ∈ Forms.resMem) : decodeBytes 0xCB op b2 = i ∧ exec i s = resetBitMem b s := by
  fin_cases row <;> exact ⟨rfl, rfl⟩

theorem setReg_row (row : (op, i, b, k) ∈ Forms.setReg) : decodeBytes 0xCB op b2 = i ∧ exec i s = raiseBitReg b k s := by
  obtain row | row := List.mem_append.mp row <;> fin_cases row <;> exact ⟨rfl, rfl⟩

theorem setMem_row (row : (op, i, b) ∈ Forms.setMem) : decodeBytes 0xCB op b2 = i ∧ exec i s = raiseBitMem b s := by
  fin_cases row <;> exact ⟨rfl, rfl⟩

end

/-! ### The obligations -/

/-- Settles O17: every row is a rotate of A, with the result and the bit shifted out of the operation. -/
theorem accumulatorRotates : Obligations.AccumulatorRotates := by
  intro op i rot row b1 b2 s
  have next := rotateA_next rot s
  rw [← rotApply_out rot s.regs.a s.regs.f.c]
  fin_cases row <;> exact ⟨rfl, _, rotApply_toNat .., next⟩

/-- Settles O18: every row is one of the eight operations on a register. -/
theorem rotatesOfRegister : Obligations.RotatesOfRegister := by
  intro op i rot k row b2 s
  obtain ⟨decoded, runs⟩ := rotReg_row b2 s row
  exact ⟨decoded, _, _, rotResult_rule .., runs.trans (rotateReg_next ..)⟩

/-- Settles O19: every row is one of the eight operations on the byte at HL. -/
theorem rotatesOfMemory : Obligations.RotatesOfMemory := by
  intro op i rot row b2 s
  obtain ⟨decoded, runs⟩ := rotMem_row b2 s row
  exact ⟨decoded, _, _, rotResult_rule .., runs.trans (rotateMem_next ..)⟩

/-- Settles O20: the rows test, reset or set one bit of a register or of the byte at HL. -/
theorem bitInstructions : Obligations.BitInstructions := by
  refine ⟨fun op i b k row b2 s => ?bitReg, fun op i b row b2 s => ?bitMem, fun op i b k row b2 s => ?resReg,
    fun op i b row b2 s => ?resMem, fun op i b k row b2 s => ?setReg, fun op i b row b2 s => ?setMem⟩
  case bitReg =>
    obtain ⟨decoded, runs⟩ := bitReg_row b2 s row
    exact ⟨decoded, by rw [runs, testBitReg_next, bitFlags_eq_bitRule]⟩
  case bitMem =>
    obtain ⟨decoded, runs⟩ := bitMem_row b2 s row
    exact ⟨decoded, by rw [runs, testBitMem_next, bitFlags_eq_bitRule]⟩
  case resReg =>
    obtain ⟨decoded, runs⟩ := resReg_row b2 s row
    exact ⟨decoded, _, resBit_put _ _, runs.trans (resetBitReg_next ..)⟩
  case resMem =>
    obtain ⟨decoded, runs⟩ := resMem_row b2 s row
    exact ⟨decoded, _, resBit_put _ _, runs.trans (resetBitMem_next ..)⟩
  case setReg =>
    obtain ⟨decoded, runs⟩ := setReg_row b2 s row
    exact ⟨decoded, _, setBit_put _ _, runs.trans (raiseBitReg_next ..)⟩
  case setMem =>
    obtain ⟨decoded, runs⟩ := setMem_row b2 s row
    exact ⟨decoded, _, setBit_put _ _, runs.trans (raiseBitMem_next ..)⟩

end Sys2Proof
end

section
/-! PROOFS. The jumps, calls, restarts, returns, PUSH and POP (R310 to R323) and the stack primitives (R330, R331): each
opcode's row as one of the shared forms, whose next state the support lemmas give, and the flags they leave alone. -/

namespace Sys2Proof.Machine

open Sys2Proof.Claims

/-! ### The stack and the targets, in the spec's own arithmetic -/

/-- R330: the bytes a push writes are the quotient and the remainder by 256. -/
theorem State.push16_eq_pushed (s : State) (v : Word) : s.push16 v = pushed s v := by
  rw [State.push16_eq, hiByte_eq, loByte_eq, pushed]

/-- R331: the byte at SP is the low one. -/
theorem State.stackTop_eq_poppedWord (s : State) : s.stackTop = poppedWord s := by
  apply BitVec.eq_of_toNat_eq
  rw [poppedWord, BitVec.toNat_ofNat, State.stackTop, wordOf_toNat]
  omega

theorem State.push16_f (s : State) (v : Word) : (s.push16 v).regs.f = s.regs.f := by rw [State.push16_regs]

/-- R314: adding the sign-extended byte is the signed sum modulo 65536. -/
theorem add_sext8_eq_relTarget (next : Word) (e : Byte) : next + sext8 e = relTarget next e := by
  rw [sext8_eq_ofInt, relTarget, BitVec.ofInt_add, BitVec.ofInt_natCast, BitVec.ofNat_toNat, BitVec.setWidth_eq]

/-! ### A stack operand after a pop -/

/-- R33: F keeps bits 7..4 of a byte written to it. -/
theorem Flags.toByte_ofByte_toNat (v : Byte) : (Flags.ofByte v).toByte.toNat = v.toNat / 16 * 16 := by
  obtain ⟨n, small, rfl⟩ := Byte.exists_ofNat v
  interval_cases n <;> rfl

theorem wordOf_hiByte_toNat (v : Word) (lo : Byte) : (wordOf (hiByte v) lo).toNat = v.toNat / 256 * 256 + lo.toNat := by
  rw [wordOf_toNat, hiByte_eq, BitVec.toNat_ofNat]
  omega

/-- R323: a popped operand reads back as popped, but for bits 3..0 of F. -/
theorem Regs.getStack_setStack_toNat (r : Regs) (k : StackReg) (v : Word) :
    ((r.setStack k v).getStack k).toNat = if k = .af then v.toNat / 16 * 16 else v.toNat := by
  have whole : wordOf (hiByte v) (loByte v) = v := wordOf_hiByte_loByte v
  cases k
  case af =>
    have low : (loByte v).toNat = v.toNat % 256 := by rw [loByte_eq, BitVec.toNat_ofNat]; omega
    show (wordOf (hiByte v) (Flags.ofByte (loByte v)).toByte).toNat = v.toNat / 16 * 16
    rw [wordOf_hiByte_toNat, Flags.toByte_ofByte_toNat, low]
    omega
  all_goals exact congrArg BitVec.toNat whole

/-- R323: a write to one stack operand leaves the other three alone. -/
theorem Regs.setStack_frame (r : Regs) (k : StackReg) (v : Word) :
    (k ≠ .af → (r.setStack k v).a = r.a ∧ (r.setStack k v).f = r.f) ∧
    (k ≠ .bc → (r.setStack k v).b = r.b ∧ (r.setStack k v).c = r.c) ∧
    (k ≠ .de → (r.setStack k v).d = r.d ∧ (r.setStack k v).e = r.e) ∧
    (k ≠ .hl → (r.setStack k v).h = r.h ∧ (r.setStack k v).l = r.l) := by
  cases k <;> simp [Regs.setStack, Regs.setHl]

/-- R323: a write to a stack operand writes neither SP nor PC. -/
theorem Regs.setStack_eq (r : Regs) (k : StackReg) (v : Word) :
    r.setStack k v =
      let t := r.setStack k v
      { r with a := t.a, f := t.f, b := t.b, c := t.c, d := t.d, e := t.e, h := t.h, l := t.l } := by
  cases k <;> rfl

/-- R320: RETI is a return that also sets IME and clears the EI delay. -/
theorem execReti_next (s : State) :
    execReti s = .next
      (let t := ((s.passed 1 16).setSp (s.regs.sp + 2)).setPc s.stackTop
       { t with cpu := { t.cpu with ime := true, eiDelay := 0 } }) := by
  rw [← State.fetched_tick s 16 (by decide), ← State.stackTop_fetched s 1]
  rfl

end Sys2Proof.Machine

namespace Sys2Proof

open Sys2Proof.Machine Sys2Proof.Claims

/-! ### The rows -/

section
variable {op : Byte} {i : Instr} {cc : Cond} {k : StackReg} {target : Word}

theorem jpCond_row {i : Word → Instr} (row : (op, i, cc) ∈ Forms.jpCond) (lo hi : Byte) (s : State) :
    decodeBytes op lo hi = i (wordOf hi lo) ∧ ∀ nn, exec (i nn) s = jumpIf cc nn s := by
  fin_cases row <;> exact ⟨rfl, fun _ => rfl⟩

theorem jrCond_row {i : Byte → Instr} (row : (op, i, cc) ∈ Forms.jrCond) (e b2 : Byte) (s : State) :
    decodeBytes op e b2 = i e ∧ exec (i e) s = jumpRelIf cc e s := by
  fin_cases row <;> exact ⟨rfl, rfl⟩

theorem callCond_row {i : Word → Instr} (row : (op, i, cc) ∈ Forms.callCond) (lo hi : Byte) (s : State) :
    decodeBytes op lo hi = i (wordOf hi lo) ∧ ∀ nn, exec (i nn) s = callIf cc nn s := by
  fin_cases row <;> exact ⟨rfl, fun _ => rfl⟩

theorem retCond_row (row : (op, i, cc) ∈ Forms.retCond) (b1 b2 : Byte) (s : State) :
    decodeBytes op b1 b2 = i ∧ exec i s = returnIf cc s := by
  fin_cases row <;> exact ⟨rfl, rfl⟩

theorem rst_row (row : (op, i, target) ∈ Forms.rst) (b1 b2 : Byte) (s : State) :
    decodeBytes op b1 b2 = i ∧ target.toNat = 8 * (op.toNat / 8 % 8) ∧ exec i s = restart target s := by
  fin_cases row <;> exact ⟨rfl, rfl, rfl⟩

theorem pushes_row (row : (op, i, k) ∈ Forms.pushes) (b1 b2 : Byte) (s : State) :
    decodeBytes op b1 b2 = i ∧ exec i s = push k s := by
  fin_cases row <;> exact ⟨rfl, rfl⟩

theorem pops_row (row : (op, i, k) ∈ Forms.pops) (b1 b2 : Byte) (s : State) :
    decodeBytes op b1 b2 = i ∧ exec i s = pop k s := by
  fin_cases row <;> exact ⟨rfl, rfl⟩

end

/-! ### The flags kept (R310) -/

/-- The state `r` ends in, if it ends in one, has the flags of `s`. -/
def KeepsFlags (s : State) (r : Result State) : Prop := ∀ t, r = .next t → t.regs.f = s.regs.f

theorem KeepsFlags.of_next {s u : State} {r : Result State} (next : r = .next u) (kept : u.regs.f = s.regs.f) :
    KeepsFlags s r := by
  rintro t ran
  cases next.symm.trans ran
  exact kept

section
variable (s : State) (cc : Cond) (nn : Word)

theorem call_keepsFlags : KeepsFlags s (call nn s) :=
  .of_next (call_next nn s) (State.push16_f ..)

theorem callIf_keepsFlags : KeepsFlags s (callIf cc nn s) := by
  refine .of_next (callIf_next cc nn s) ?_
  split
  · exact State.push16_f ..
  · rfl

theorem restart_keepsFlags : KeepsFlags s (restart nn s) :=
  .of_next (restart_next nn s) (State.push16_f ..)

theorem returnTop_keepsFlags : KeepsFlags s (returnTop s) := .of_next (returnTop_next s) rfl

theorem returnIf_keepsFlags : KeepsFlags s (returnIf cc s) := by
  refine .of_next (returnIf_next cc s) ?_
  split <;> rfl

theorem execReti_keepsFlags : KeepsFlags s (execReti s) := .of_next (execReti_next s) rfl

theorem push_keepsFlags (k : StackReg) : KeepsFlags s (push k s) :=
  .of_next (push_next k s) (State.push16_f ..)

theorem pop_keepsFlags {k : StackReg} (h : k ≠ .af) : KeepsFlags s (pop k s) := by
  obtain ⟨keptAf, _⟩ := Regs.setStack_frame (s.passed 1 12).popped.regs k s.stackTop
  exact .of_next (pop_next k s) (keptAf h).2

end

/-! ### The obligations -/

/-- Settles O21: every row is one of the shared forms, and each form but a pop of AF keeps F. -/
theorem jumps : Obligations.Jumps := by
  refine ⟨fun f => ⟨rfl, rfl, rfl, rfl⟩, fun op i cc row nn s no => ?callNotTaken, fun op i cc row s no => ?retNotTaken,
    fun i s t ran form => ?flags, fun lo hi s => ⟨rfl, jump_next _ s⟩, fun op i cc row lo hi s => ?jp,
    fun b1 b2 s => ⟨rfl, jumpHl_next s⟩, fun e b2 s => ?jr, fun op i cc row e b2 s => ?jrIf⟩
  case callNotTaken =>
    obtain ⟨-, runs⟩ := callCond_row row 0 0 s
    rw [runs, callIf_next, no]
    rfl
  case retNotTaken =>
    obtain ⟨-, runs⟩ := retCond_row row 0 0 s
    rw [runs, returnIf_next, no]
    rfl
  case flags =>
    obtain (rfl | rfl | ⟨nn, rfl⟩) | ⟨op, nn, row⟩ | ⟨op, cc, row⟩ | ⟨op, mk, cc, nn, row, rfl⟩ | ⟨op, k, row⟩ |
      ⟨op, k, row, notAf⟩ := form
    · exact returnTop_keepsFlags s t ran
    · exact execReti_keepsFlags s t ran
    · exact call_keepsFlags s nn t ran
    · obtain ⟨-, -, runs⟩ := rst_row row 0 0 s
      exact restart_keepsFlags s nn t (runs ▸ ran)
    · obtain ⟨-, runs⟩ := retCond_row row 0 0 s
      exact returnIf_keepsFlags s cc t (runs ▸ ran)
    · obtain ⟨-, runs⟩ := callCond_row row 0 0 s
      exact callIf_keepsFlags s cc nn t (runs nn ▸ ran)
    · obtain ⟨-, runs⟩ := pushes_row row 0 0 s
      exact push_keepsFlags s k t (runs ▸ ran)
    · obtain ⟨-, runs⟩ := pops_row row 0 0 s
      exact pop_keepsFlags s notAf t (runs ▸ ran)
  case jp =>
    obtain ⟨decoded, runs⟩ := jpCond_row row lo hi s
    exact ⟨decoded, (runs _).trans (jumpIf_next ..)⟩
  case jr =>
    rw [← add_sext8_eq_relTarget]
    exact ⟨rfl, jumpRel_next e s⟩
  case jrIf =>
    rw [← add_sext8_eq_relTarget]
    obtain ⟨decoded, runs⟩ := jrCond_row row e b2 s
    exact ⟨decoded, runs.trans (jumpRelIf_next ..)⟩

/-- Settles O22: CALL, CALL cc and RST push the PC of the passed state. -/
theorem calls : Obligations.Calls := by
  refine ⟨fun lo hi s => ?call, fun op i cc row lo hi s => ?callIf, fun op i target row b1 b2 s => ?rst⟩
  case call =>
    rw [← State.push16_eq_pushed]
    exact ⟨rfl, call_next _ s⟩
  case callIf =>
    rw [← State.push16_eq_pushed]
    obtain ⟨decoded, runs⟩ := callCond_row row lo hi s
    exact ⟨decoded, (runs _).trans (callIf_next ..)⟩
  case rst =>
    rw [← State.push16_eq_pushed]
    obtain ⟨decoded, address, runs⟩ := rst_row row b1 b2 s
    exact ⟨decoded, address, runs.trans (restart_next ..)⟩

/-- Settles O23: the returns take PC from the word at SP. -/
theorem returns : Obligations.Returns := by
  refine ⟨fun b1 b2 s => ?ret, fun op i cc row b1 b2 s => ?retIf, fun b1 b2 s => ?reti⟩
  all_goals rw [← State.stackTop_eq_poppedWord]
  case ret => exact ⟨rfl, returnTop_next s⟩
  case retIf =>
    obtain ⟨decoded, runs⟩ := retCond_row row b1 b2 s
    exact ⟨decoded, runs.trans (returnIf_next ..)⟩
  case reti => exact ⟨rfl, execReti_next s⟩

/-- Settles O24: a pop writes SP and one operand, which reads back as the word at SP, but for bits 3..0 of F. -/
theorem pushPop : Obligations.PushPop := by
  refine ⟨fun s v => ⟨State.push16_eq_pushed s v, State.stackTop_eq_poppedWord s, rfl⟩, fun op i k row b1 b2 s => ?push,
    fun op i k row b1 b2 s => ?pop⟩
  case push =>
    rw [← State.push16_eq_pushed]
    obtain ⟨decoded, runs⟩ := pushes_row row b1 b2 s
    exact ⟨decoded, runs.trans (push_next k s)⟩
  case pop =>
    obtain ⟨decoded, runs⟩ := pops_row row b1 b2 s
    rw [← State.stackTop_eq_poppedWord]
    obtain ⟨keptAf, keptBc, keptDe, keptHl⟩ := Regs.setStack_frame (s.passed 1 12).popped.regs k s.stackTop
    exact ⟨decoded, _, runs.trans (pop_next k s), Regs.setStack_eq .., keptAf, keptBc, keptDe, keptHl,
      Regs.getStack_setStack_toNat ..⟩

end Sys2Proof
end

section
/-! PROOFS. CPU control, DAA, the flag instructions, the CB-prefixed instructions and the illegal opcodes (R340 to R350),
and how the step counts the EI delay down (R344, R400). -/

namespace Sys2Proof.Machine

open Sys2Proof.Claims

/-! ### The forms -/

theorem execNop_next (s : State) : execNop s = .next (s.passed 1 4) := by
  rw [← State.fetched_tick s 4 (by decide)]
  rfl

theorem execStop_next (n : Byte) (s : State) : execStop n s = .next (s.passed 2 4) := by
  rw [← State.fetched_tick s 4 (by decide)]
  rfl

theorem disableInterrupts_next (s : State) :
    disableInterrupts s =
      .next { s.passed 1 4 with cpu := { (s.passed 1 4).cpu with ime := false, eiDelay := 0 } } := by
  rw [← State.fetched_tick s 4 (by decide)]
  rfl

/-- R344: a delay that runs, and an IME that is set, are left alone. -/
theorem enableInterrupts_next (s : State) :
    enableInterrupts s =
      .next { s.passed 1 4 with
        cpu := { (s.passed 1 4).cpu with
          eiDelay := if s.cpu.ime = false ∧ s.cpu.eiDelay = 0 then 2 else s.cpu.eiDelay } } := by
  rw [← State.fetched_tick s 4 (by decide)]
  show (if s.cpu.ime = false ∧ s.cpu.eiDelay = 0 then _ else _) = _
  split <;> rfl

theorem halt_next (s : State) :
    halt s =
      .next { s.passed 1 4 with
        cpu :=
          if s.config.haltBugTrigger = .entryPending ∧ s.cpu.ime = false ∧ s.irq.ie &&& s.irq.iflag ≠ 0 then
            { (s.passed 1 4).cpu with haltBug := true }
          else { (s.passed 1 4).cpu with halted := true } } := by
  rw [← State.fetched_tick s 4 (by decide)]
  show (if s.config.haltBugTrigger = .entryPending ∧ s.cpu.ime = false ∧ s.irq.ie &&& s.irq.iflag ≠ 0 then _ else _) = _
  split <;> rfl

theorem decimalAdjust_next (s : State) :
    decimalAdjust s =
      .next (((s.passed 1 4).setReg8 .a (daa8 s.config.daaSubBorrowSetsC s.regs.a s.regs.f).1).setFlags
        (daa8 s.config.daaSubBorrowSetsC s.regs.a s.regs.f).2) := by
  rw [← State.fetched_tick s 4 (by decide)]
  rfl

theorem complementA_next (s : State) :
    complementA s = .next (((s.passed 1 4).setReg8 .a (s.regs.a ^^^ 0xFF)).setFlags (cplFlags s.regs.f)) := by
  rw [← State.fetched_tick s 4 (by decide)]
  rfl

theorem writeFlags_next (g : Flags → Flags) (s : State) :
    writeFlags g s = .next ((s.passed 1 4).setFlags (g s.regs.f)) := by
  rw [← State.fetched_tick s 4 (by decide)]
  rfl

/-! ### DAA and CPL on numbers -/

/-- R345: the two corrections have no bit in common, so joining them is adding them. -/
theorem daaCorrection_toNat (high low : Bool) :
    (daaCorrection high low).toNat = (if low then 0x06 else 0) + (if high then 0x60 else 0) := by
  cases high <;> cases low <;> rfl

section
variable (borrowSetsC : Bool) (a : Byte) (f : Flags)

/-- R345: `w` is the difference modulo 256 after a subtraction, the sum modulo 256 after an addition. -/
theorem daa8_toNat : (daa8 borrowSetsC a f).1.toNat = (daaRule borrowSetsC a.toNat f).1 := by
  unfold daa8 daaRule
  split
  · have corr := daaCorrection_toNat f.c f.h
    have small := (daaCorrection f.c f.h).isLt
    simp only [BitVec.toNat_sub, ← corr]
    omega
  · simp only [BitVec.toNat_add, daaCorrection_toNat, ← Nat.add_assoc]
    rfl

/-- R345: the flags, Z per result. -/
theorem daa8_flags : (daa8 borrowSetsC a f).2 =
    { z := decide ((daa8 borrowSetsC a f).1.toNat = 0), n := f.n, h := false, c := (daaRule borrowSetsC a.toNat f).2 } := by
  rw [← Byte.beq_zero_eq_decide]
  unfold daa8 daaRule
  split
  · simp only [daaCorrection_toNat]
  · rfl

end

/-- R346: the complement of a byte is its distance from 255. -/
theorem xor_ff_eq_ofNat (v : Byte) : v ^^^ 0xFF = BitVec.ofNat 8 (255 - v.toNat) := by
  have complement : v ^^^ 0xFF = ~~~v := BitVec.xor_allOnes
  have byte := v.isLt
  apply BitVec.eq_of_toNat_eq
  rw [complement, BitVec.toNat_not, BitVec.toNat_ofNat]
  omega

/-! ### The count of the EI delay -/

/-- R344, R400: the count sets IME when the delay has one step left, and leaves a delay just begun with one. -/
theorem State.countEiDelay_delay (s : State) :
    s.countEiDelay.cpu.ime = (s.cpu.ime || decide (s.cpu.eiDelay = 1)) ∧
      s.countEiDelay.cpu.eiDelay = if s.cpu.eiDelay = 2 then 1 else 0 := by
  rw [State.countEiDelay]
  split
  next zero => simp [zero]
  next one => simp [one]
  next two => simp [two]

end Sys2Proof.Machine

namespace Sys2Proof

open Sys2Proof.Machine Sys2Proof.Claims

/-! ### The CB-prefixed instructions -/

/-- R349: the fields of the second byte select the meaning of its row of the CB map. -/
theorem exec_prefixCb (op2 : Byte) (s : State) : exec (.prefixCb op2) s = exec (decodeCb op2) s := by
  obtain ⟨n, small, rfl⟩ := Byte.exists_ofNat op2
  interval_cases n <;> rfl

/-- R151: after the byte 0xCB the fetch decodes by the CB map. -/
theorem fetchInstr_of_prefix {s : State} (atPc : s.read s.regs.pc = 0xCB) :
    s.fetchInstr = decodeCb (s.read s.operandAddr) := by
  rw [State.fetchInstr, atPc]
  rfl

/-! ### The illegal opcodes -/

theorem exec_illegal {op : Byte} {i : Instr} (row : (op, i) ∈ Forms.illegal) (s : State) :
    exec i s = .next (s.raiseIllegal op) := by
  fin_cases row <;> rfl

/-- R38, R163: the control instructions are HALT, DI, EI, RETI and the illegal opcodes. -/
theorem Instr.isControl_rows {i : Instr} (h : Instr.isControl i = true) :
    i = .halt ∨ i = .di ∨ i = .ei ∨ i = .reti ∨ ∃ op, (op, i) ∈ Forms.illegal := by
  suffices listed : i ∈ Instr.halt :: .di :: .ei :: .reti :: Forms.illegal.map Prod.snd by simpa using listed
  unfold Instr.isControl at h
  split at h
  case h_16 => cases h
  all_goals decide

/-- R523, R531: without a cartridge the step changes nothing. -/
theorem step_of_no_cart {s : State} (cart : s.cart = none) : step s = .next s := by
  rw [step, systemStep, if_pos cart]

/-- R430: once the fault is set, the step changes nothing. -/
theorem step_of_fault {s : State} (fault : s.cpu.fault.isSome = true) : step s = .next s := by
  have stopped : cpuStep s = .next s := by rw [cpuStep, if_pos fault]
  by_cases cart : s.cart = none
  · exact step_of_no_cart cart
  · simp only [step, systemStep, if_neg cart, stopped, Nat.sub_self, State.advanceBy, ↓reduceIte]

/-- R430: once the fault is set, `runFrame` changes nothing. -/
theorem runFrame_of_fault {s : State} (fault : s.cpu.fault.isSome = true) : s.runFrame = .next s := by
  rw [State.runFrame, if_pos (.inr fault)]

/-! ### The EI delay -/

/-- R400: the CPU step of a machine that executes an instruction. -/
theorem cpuStep_of_runs {s t : State} (runs : Runs s) (next : exec s.fetchInstr s = .next t) :
    cpuStep s = .next t.afterInstr := by
  obtain ⟨fault, quiet, halted⟩ := runs
  have idle : (if s.cpu.ime then s.irq.first else none) = none := by
    obtain ime | pending := quiet
    · simp [ime]
    · simp [Irq.first, pending]
  simp [cpuStep, runInstr, fault, halted, idle, next]

/-- R344, R400: IME and the EI delay after a step that executes an instruction, from those the instruction leaves. -/
theorem cpuStep_delay {s t : State} (runs : Runs s) (next : exec s.fetchInstr s = .next t) (fault : t.cpu.fault = none) :
    ∃ u, cpuStep s = .next u ∧ u.cpu.ime = (t.cpu.ime || decide (t.cpu.eiDelay = 1)) ∧
      u.cpu.eiDelay = if t.cpu.eiDelay = 2 then 1 else 0 := by
  have counts : t.afterInstr = t.countEiDelay := by simp [State.afterInstr, fault]
  exact ⟨_, counts ▸ cpuStep_of_runs runs next, t.countEiDelay_delay⟩

/-- R344: while a delay runs, an instruction that is neither DI nor an illegal opcode keeps IME and the delay, or is RETI,
which sets IME itself. -/
theorem exec_delayed {i : Instr} {s : State} (running : s.cpu.eiDelay ≠ 0) (notDi : i ≠ .di)
    (legal : ∀ op, (op, i) ∉ Forms.illegal) :
    ∃ t, exec i s = .next t ∧ t.cpu.fault = s.cpu.fault ∧
      ((t.cpu.ime = s.cpu.ime ∧ t.cpu.eiDelay = s.cpu.eiDelay) ∨ (t.cpu.ime = true ∧ t.cpu.eiDelay = 0)) := by
  cases control : Instr.isControl i with
  | false =>
    obtain ⟨t, next, -, kept, -⟩ := exec_ends i s control
    obtain ⟨ime, delay, -, -, fault⟩ := Cpu.control_eq_iff.mp kept
    exact ⟨t, next, fault, .inl ⟨ime, delay⟩⟩
  | true =>
    obtain rfl | rfl | rfl | rfl | ⟨op, row⟩ := Instr.isControl_rows control
    · refine ⟨_, halt_next s, ?_⟩
      split <;> exact ⟨rfl, .inl ⟨rfl, rfl⟩⟩
    · exact absurd rfl notDi
    · refine ⟨_, enableInterrupts_next s, rfl, .inl ⟨rfl, ?_⟩⟩
      simp [running]
    · exact ⟨_, execReti_next s, rfl, .inr ⟨rfl, rfl⟩⟩
    · exact absurd row (legal op)

/-! ### The obligations -/

/-- Settles O6: the second byte selects the meaning of its row, and under the HALT bug it is the byte 0xCB, fetched again. -/
theorem cbPrefixSelects : Obligations.CbPrefixSelects := by
  intro op2 s
  obtain ⟨t, next, -⟩ := execPrefixCb_ends op2 s
  refine ⟨exec_prefixCb op2 s, ⟨t, next⟩, fun atPc => ?_⟩
  rw [fetchInstr_of_prefix atPc, State.operandAddr]
  split
  · rw [atPc]
    rfl
  · rfl

/-- Settles O26: EI leaves a delay of one step, the count of the next step ends it, and DI clears it. -/
theorem eiTakesEffectLate : Obligations.EiTakesEffectLate := by
  refine ⟨fun b1 b2 s => ⟨rfl, enableInterrupts_next s⟩, fun s runs fetched off idle => ?begins,
    fun s runs off one notDi legal => ?ends, fun s runs fetched => ?cancels⟩
  case begins =>
    have next := (congrArg (exec · s) fetched).trans (enableInterrupts_next s)
    obtain ⟨u, ran, ime, delay⟩ := cpuStep_delay runs next runs.1
    exact ⟨u, ran, by simp [ime, off, idle], by simp [delay, off, idle]⟩
  case ends =>
    have running : s.cpu.eiDelay ≠ 0 := by simp [one]
    obtain ⟨t, next, fault, control⟩ := exec_delayed running notDi legal
    obtain ⟨u, ran, ime, delay⟩ := cpuStep_delay runs next (fault.trans runs.1)
    obtain ⟨ime', delay'⟩ | ⟨ime', delay'⟩ := control
    · exact ⟨u, ran, by simp [ime, delay', one], by simp [delay, delay', one]⟩
    · exact ⟨u, ran, by simp [ime, ime'], by simp [delay, delay']⟩
  case cancels =>
    have next := (congrArg (exec · s) fetched).trans (disableInterrupts_next s)
    exact cpuStep_delay runs next runs.1

/-- Settles O27: `w`, the carry and the flags of DAA are those of `daaRule`; CPL, SCF and CCF write the flags stated. -/
theorem daaAndFlagInstructions : Obligations.DaaAndFlagInstructions := by
  intro b1 b2 s
  have daa := decimalAdjust_next s
  rw [daa8_flags] at daa
  rw [← xor_ff_eq_ofNat]
  exact ⟨⟨rfl, _, daa8_toNat .., daa⟩, ⟨rfl, complementA_next s⟩, ⟨rfl, writeFlags_next scfFlags s⟩,
    ⟨rfl, writeFlags_next ccfFlags s⟩⟩

/-- Settles O28: the illegal opcode counts no cycles, so no device advances, and the fault stops the CPU. -/
theorem illegalOpcodeFaults : Obligations.IllegalOpcodeFaults := by
  refine ⟨fun op i row s => exec_illegal row s, fun op i row s runs fetched => ?step, fun s fault => ?stopped⟩
  case step =>
    by_cases cart : s.cart = none
    · rw [if_pos cart, step_of_no_cart cart]
    · subst fetched
      have free : (s.raiseIllegal op).cpu.cycles - s.cpu.cycles = 0 := Nat.sub_self _
      rw [if_neg cart, step_of_runs cart runs (exec_illegal row s), free]
      rfl
  case stopped =>
    have set := Option.isSome_iff_ne_none.mpr fault
    exact ⟨step_of_fault set, runFrame_of_fault set⟩

/-- Settles O25: NOP and STOP only pass, and HALT and DI change the CPU's control state besides. -/
theorem nopHaltStopDi : Obligations.NopHaltStopDi :=
  fun n _ _ s => ⟨⟨rfl, execNop_next s⟩, ⟨rfl, execStop_next n s⟩, ⟨rfl, disableInterrupts_next s⟩, ⟨rfl, halt_next s⟩⟩

end Sys2Proof
end

section
/-! PROOFS. Interrupt priority and dispatch, HALT, the cycles a CPU step counts, and the fault (R400, R401, R411 to R414,
R416, R418, R432). -/

namespace Sys2Proof.Machine

open Sys2Proof.Claims

/-! ### Priority -/

theorem Irq.pending_getLsbD (q : Irq) (i : Nat) : q.pending.getLsbD i = (q.ie.getLsbD i && q.iflag.getLsbD i) :=
  BitVec.getLsbD_and

/-- R411: the first source is the pending one with none pending below it. -/
theorem Irq.first_eq_some_iff (q : Irq) (k : IrqSource) :
    q.first = some k ↔ q.pending.getLsbD k.index = true ∧ ∀ j, j < k.index → q.pending.getLsbD j = false := by
  unfold Irq.first
  cases k <;> simp only [IrqSource.index, Nat.forall_lt_succ_right, Nat.not_lt_zero, false_implies, implies_true, true_and,
    and_true] <;>
    split_ifs <;> simp_all

theorem Irq.first_eq_none_iff (q : Irq) : q.first = none ↔ q.pending = 0 := by
  constructor
  · intro h
    unfold Irq.first at h
    apply BitVec.eq_of_getLsbD_eq
    intro i hi
    split_ifs at h
    interval_cases i <;> simp_all
  · intro h
    simp [Irq.first, h]

/-- Settles O33: the sources are tried from the lowest bit up. -/
theorem interruptPriority : Obligations.InterruptPriority := by
  intro q
  refine ⟨fun k => ?_, q.first_eq_none_iff⟩
  simp only [q.first_eq_some_iff, Irq.pending_getLsbD, Bool.and_eq_true, and_assoc, Bool.eq_false_iff, ne_eq]

/-! ### Dispatch -/

theorem IrqSource.vector_eq (k : IrqSource) : k.vector = BitVec.ofNat 16 (0x40 + 8 * k.index) := by
  cases k <;> rfl

/-- R412: taking an interrupt, the cycles counted before the push instead of after it. -/
theorem State.takeInterrupt_eq (s : State) (k : IrqSource) :
    s.takeInterrupt k =
      (pushed
        { s with
          cpu := { s.cpu with ime := false, eiDelay := 0, halted := false, cycles := s.cpu.cycles + 20 }
          irq := s.irq.acknowledge k } s.regs.pc).setPc k.vector := by
  unfold State.takeInterrupt
  simp only [State.setPc_tick, State.push16_tick, ← State.push16_eq_pushed]
  rfl

/-- R400: with no fault and IME set the step dispatches the first pending source. -/
theorem cpuStep_of_dispatch {s : State} {k : IrqSource} (fault : s.cpu.fault = none) (ime : s.cpu.ime = true)
    (first : s.irq.first = some k) : cpuStep s = .next (s.takeInterrupt k) := by
  simp [cpuStep, fault, ime, first]

/-- Settles O34: the push and the count of its cycles commute. -/
theorem interruptDispatch : Obligations.InterruptDispatch := by
  intro s k fault ime first
  rw [cpuStep_of_dispatch fault ime first, State.takeInterrupt_eq, k.vector_eq]
  rfl

/-! ### HALT -/

/-- R413: a halted CPU with nothing pending counts 4 cycles. -/
theorem cpuStep_of_idle {s : State} (fault : s.cpu.fault = none) (halted : s.cpu.halted = true) (none : s.irq.pending = 0) :
    cpuStep s = .next (s.tick 4) := by
  simp [cpuStep, fault, halted, none, s.irq.first_eq_none_iff.mpr none]

/-- R413, R414: a halted CPU with IME = 0 and an interrupt pending wakes and executes. -/
theorem cpuStep_of_wake {s : State} (fault : s.cpu.fault = none) (halted : s.cpu.halted = true) (off : s.cpu.ime = false)
    (some : s.irq.pending ≠ 0) : cpuStep s = runInstr s.wake := by
  rw [cpuStep, if_neg (by simp [fault]), off]
  exact (if_pos halted).trans (if_neg some)

/-- R531: the devices advance by the cycles a CPU step counts. -/
theorem step_of_cpuStep {s t : State} {n : Nat} (cart : s.cart ≠ none) (ran : cpuStep s = .next t)
    (counted : t.cpu.cycles = s.cpu.cycles + n) (pos : n ≠ 0) : step s = .next (t.advanceDevices n) := by
  simp only [step, systemStep, if_neg cart, ran, counted, Nat.add_sub_cancel_left, State.advanceBy, if_neg pos]

/-- Settles O35: with nothing pending no source is first, and with IME = 0 none is dispatched. -/
theorem haltedSteps : Obligations.HaltedSteps := by
  refine ⟨fun s fault halted none => ?idle, fun s fault halted off some => cpuStep_of_wake fault halted off some⟩
  have idle := cpuStep_of_idle fault halted none
  exact ⟨idle, fun cart => step_of_cpuStep cart idle rfl (by decide)⟩

end Sys2Proof.Machine

namespace Sys2Proof

open Sys2Proof.Machine

/-! ### Faults and cycles -/

/-- R401, R432: an instruction that is not illegal leaves the fault alone and counts 4 to 24 cycles. -/
theorem exec_legal {i : Instr} (s : State) (legal : ∀ op, (op, i) ∉ Forms.illegal) :
    ∃ t, exec i s = .next t ∧ t.cpu.fault = s.cpu.fault ∧
      ∃ n, 1 ≤ n ∧ n ≤ 6 ∧ t.cpu.cycles = s.cpu.cycles + 4 * n := by
  cases control : Instr.isControl i with
  | false =>
    obtain ⟨t, next, -, kept, counted⟩ := exec_ends i s control
    obtain ⟨-, -, -, -, fault⟩ := Cpu.control_eq_iff.mp kept
    exact ⟨t, next, fault, counted⟩
  | true =>
    obtain rfl | rfl | rfl | rfl | ⟨op, row⟩ := Instr.isControl_rows control
    · refine ⟨_, halt_next s, ?_⟩
      split <;> exact ⟨rfl, 1, by decide, by decide, rfl⟩
    · exact ⟨_, disableInterrupts_next s, rfl, 1, by decide, by decide, rfl⟩
    · exact ⟨_, enableInterrupts_next s, rfl, 1, by decide, by decide, rfl⟩
    · exact ⟨_, execReti_next s, rfl, 4, by decide, by decide, rfl⟩
    · exact absurd row (legal op)

/-- Settles O29: a legal instruction leaves the fault as it was. -/
theorem noOtherFault : Obligations.NoOtherFault := by
  intro i s t next changed
  by_contra legal
  obtain ⟨u, next', fault, -⟩ := exec_legal s (not_exists.mp legal)
  cases next.symm.trans next'
  exact changed fault

/-- R401: from `s` to `t` the CPU counts `4 * n` cycles, at most 24, and none exactly when it is faulted after them. -/
def Counts (s t : State) : Prop :=
  ∃ n, t.cpu.cycles = s.cpu.cycles + 4 * n ∧ n ≤ 6 ∧ (n = 0 ↔ t.cpu.fault ≠ none)

theorem State.afterInstr_cycles (s : State) : s.afterInstr.cpu.cycles = s.cpu.cycles := by
  obtain ⟨c, e, cycles⟩ := s.afterInstr_eq
  rw [e, cycles]

theorem State.afterInstr_fault (s : State) : s.afterInstr.cpu.fault = s.cpu.fault := by
  unfold State.afterInstr State.countEiDelay
  split
  · rfl
  · split <;> rfl

/-- R401: an executed instruction counts; the count of the EI delay after it adds no cycles and sets no fault. -/
theorem runInstr_counts {s t : State} (fault : s.cpu.fault = none) (ran : runInstr s = .next t) : Counts s t := by
  have after {u : State} (next : exec s.fetchInstr s = .next u) (h : Counts s u) : Counts s t := by
    simp only [runInstr, next] at ran
    cases ran
    simpa only [Counts, State.afterInstr_cycles, State.afterInstr_fault] using h
  by_cases illegal : ∃ op, (op, s.fetchInstr) ∈ Forms.illegal
  · obtain ⟨op, row⟩ := illegal
    exact after (exec_illegal row s) ⟨0, rfl, by decide, by simp [State.raiseIllegal]⟩
  · obtain ⟨u, next, kept, n, some, small, cycles⟩ := exec_legal s (not_exists.mp illegal)
    exact after next ⟨n, cycles, small, by simp [kept, fault]; omega⟩

/-- Settles O37: by the cases of the CPU step. -/
theorem stepCycles : Obligations.StepCycles := by
  intro s t step
  unfold cpuStep at step
  split at step
  next fault => -- faulted
    cases step
    exact ⟨0, rfl, by decide, by simpa using Option.isSome_iff_ne_none.mp fault⟩
  next fault =>
    have fault : s.cpu.fault = none := by simpa using fault
    split at step
    next k _ => -- an interrupt
      cases step
      exact ⟨5, by simp [State.takeInterrupt_cpu], by decide, by simp [State.takeInterrupt_cpu, fault]⟩
    next =>
      split at step
      · split at step
        · cases step -- halted, nothing pending
          exact ⟨1, rfl, by decide, by simp [fault]⟩
        · exact runInstr_counts (s := s.wake) fault step
      · exact runInstr_counts fault step

end Sys2Proof
end

section
/-! PROOFS. The timer over an advance by any number of cycles (R441 to R444). -/

namespace Sys2Proof.Machine

open Sys2Proof.Claims

/-! ### The count of TIMA -/

theorem timaPeriod_eq (tac : BitVec 3) : timaPeriod tac = [1024, 16, 64, 256].getD (tac.toNat % 4) 0 := by
  revert tac
  decide

theorem timaPeriod_pos (tac : BitVec 3) : 0 < timaPeriod tac := by
  revert tac
  decide

/-- R443: a first increment that overflows leaves TMA for the others to count from, and one that does not, the next
value. -/
theorem timaAfter_succ {tima tma : Nat} (k : Nat) (hi : tima ≤ 255) (tma_le : tma ≤ 255) :
    timaAfter tima tma (k + 1) =
      if tima = 255 then ((timaAfter tma tma k).1, true) else timaAfter (tima + 1) tma k := by
  unfold timaAfter
  by_cases top : tima = 255
  · subst top
    rw [if_pos rfl, if_neg (by omega), show 255 + (k + 1) - 256 = k by omega]
    split
    next early => rw [Nat.mod_eq_of_lt (by omega)]
    next late => rw [Nat.mod_eq_sub_mod (show k ≥ 256 - tma by omega), show k - (256 - tma) = tma + k - 256 by omega]
  · rw [if_neg top, show tima + (k + 1) = tima + 1 + k by omega]

/-- R443: TIMA stays a byte. -/
theorem timaAfter_le {tima tma : Nat} (k : Nat) (byte : tma ≤ 255) : (timaAfter tima tma k).1 ≤ 255 := by
  unfold timaAfter
  split
  · assumption
  · have := Nat.mod_lt (tima + k - 256) (show 0 < 256 - tma by omega)
    dsimp only
    omega

theorem toNat_le_255 (v : Byte) : v.toNat ≤ 255 := Nat.le_of_lt_succ v.isLt

theorem Timer.count_eq (k : Nat) (t : Timer) :
    Timer.count k t =
      ({ t with tima := BitVec.ofNat 8 (timaAfter t.tima.toNat t.tma.toNat k).1 },
        (timaAfter t.tima.toNat t.tma.toNat k).2) := by
  induction k generalizing t with
  | zero => simp [Timer.count, timaAfter, toNat_le_255 t.tima]
  | succ k ih =>
    rw [Timer.count, timaAfter_succ k (toNat_le_255 t.tima) (toNat_le_255 t.tma), Timer.countOne]
    by_cases top : t.tima = 0xFF
    · have full : t.tima.toNat = 255 := congrArg BitVec.toNat top
      rw [if_pos top, if_pos full]
      simp only [ih, Bool.true_or]
    · have below : t.tima.toNat ≠ 255 := fun e => top (BitVec.eq_of_toNat_eq e)
      have next : (t.tima + 1).toNat = t.tima.toNat + 1 := by
        rw [BitVec.toNat_add]
        exact Nat.mod_eq_of_lt (by have := toNat_le_255 t.tima; simp; omega)
      rw [if_neg top, if_neg below]
      simp only [ih, next, Bool.false_or]

/-! ### An advance -/

/-- R442, R443: the timer after `n` cycles. -/
def Timer.after (t : Timer) (n : Nat) : Timer :=
  { t with
    div := BitVec.ofNat 8 ((t.div.toNat + (t.divAcc + n) / 256) % 256)
    divAcc := (t.divAcc + n) % 256
    tima := if t.tac.getLsbD 2 then
        BitVec.ofNat 8 (timaAfter t.tima.toNat t.tma.toNat ((t.timaAcc + n) / timaPeriod t.tac)).1
      else t.tima
    timaAcc := if t.tac.getLsbD 2 then (t.timaAcc + n) % timaPeriod t.tac else t.timaAcc }

/-- R443: TIMA overflows within `n` cycles. -/
def Timer.overflows (t : Timer) (n : Nat) : Bool :=
  t.tac.getLsbD 2 && (timaAfter t.tima.toNat t.tma.toNat ((t.timaAcc + n) / timaPeriod t.tac)).2

theorem Timer.advance_eq (t : Timer) (n : Nat) : (t.advanceDiv n).advanceTima n = (t.after n, t.overflows n) := by
  have div : t.div + BitVec.ofNat 8 ((t.divAcc + n) / 256) =
      BitVec.ofNat 8 ((t.div.toNat + (t.divAcc + n) / 256) % 256) := by
    apply BitVec.eq_of_toNat_eq
    simp
  unfold Timer.advanceDiv Timer.advanceTima Timer.after Timer.overflows
  rw [div]
  cases t.tac.getLsbD 2 with
  | true => simp only [↓reduceIte, Timer.count_eq, Bool.true_and]
  | false => rfl

theorem State.timerAdvance_eq (s : State) (n : Nat) :
    s.timerAdvance n =
      { s with
        timer := s.timer.after n
        irq := if s.timer.overflows n then s.irq.request .timer else s.irq } := by
  unfold State.timerAdvance
  rw [Timer.advance_eq]
  dsimp only
  split <;> rfl

theorem State.read_tac (s : State) : s.read 0xFF07 = 0b11111#5 ++ s.timer.tac := rfl

/-- R444: TAC reads with bits 7..3 at 1. -/
theorem ones_append_tac (x : BitVec 3) : 0b11111#5 ++ x = 0xF8 ||| x.setWidth 8 := by
  revert x
  decide

/-- Settles O48: `Timer.count` is `timaAfter`, and the registers are plain accesses. -/
theorem timerCounts : Obligations.TimerCounts := by
  refine ⟨timaPeriod_eq, fun s n => State.timerAdvance_eq s n, fun s v => ?registers⟩
  rw [State.read_tac, ones_append_tac]
  exact ⟨rfl, rfl, rfl, rfl, rfl, rfl, rfl, rfl⟩

/-! ### Advances in a row -/

/-- R443: the increments of two advances are counted in a row. -/
theorem timaAfter_add {tima tma : Nat} (j k : Nat) (byte : tma ≤ 255) :
    timaAfter tima tma (j + k) =
      ((timaAfter (timaAfter tima tma j).1 tma k).1,
        (timaAfter tima tma j).2 || (timaAfter (timaAfter tima tma j).1 tma k).2) := by
  by_cases early : tima + j ≤ 255
  · simp [timaAfter, early, Nat.add_assoc]
  · have late : timaAfter tima tma j = (tma + (tima + j - 256) % (256 - tma), true) := if_neg early
    have whole : timaAfter tima tma (j + k) = (tma + (tima + j - 256 + k) % (256 - tma), true) := by
      rw [timaAfter, if_neg (by omega), show tima + (j + k) - 256 = tima + j - 256 + k by omega]
    rw [whole, late, Bool.true_or, ← Nat.mod_add_mod]
    generalize rest : (tima + j - 256) % (256 - tma) = r
    unfold timaAfter
    split
    next => rw [Nat.mod_eq_of_lt (by omega)]; simp [Nat.add_assoc]
    next =>
      rw [Nat.mod_eq_sub_mod (by omega), show r + k - (256 - tma) = tma + r + k - 256 by omega]

/-- Two advances in a row count the periods of one, and leave the residual of one. -/
theorem div_mod_add {period : Nat} (pos : 0 < period) (acc m n : Nat) :
    (acc + (m + n)) / period = (acc + m) / period + ((acc + m) % period + n) / period ∧
      (acc + (m + n)) % period = ((acc + m) % period + n) % period := by
  rw [← Nat.add_assoc, Nat.mod_add_mod, ← Nat.mul_add_div pos, ← Nat.add_assoc, Nat.div_add_mod]
  exact ⟨rfl, rfl⟩

theorem Timer.after_add (t : Timer) (m n : Nat) :
    t.after (m + n) = (t.after m).after n ∧ t.overflows (m + n) = (t.overflows m || (t.after m).overflows n) := by
  obtain ⟨divs, divAcc⟩ := div_mod_add (by decide : 0 < 256) t.divAcc m n
  obtain ⟨increments, timaAcc⟩ := div_mod_add (timaPeriod_pos t.tac) t.timaAcc m n
  have byte := timaAfter_le (tima := t.tima.toNat) ((t.timaAcc + m) / timaPeriod t.tac) (toNat_le_255 t.tma)
  have div (x : Nat) : (t.div.toNat + ((t.divAcc + m) / 256 + x)) % 256 =
      ((t.div.toNat + (t.divAcc + m) / 256) % 256 + x) % 256 := by
    omega
  unfold Timer.after Timer.overflows
  cases t.tac.getLsbD 2 with
  | false => simp [divs, divAcc, div]
  | true =>
    simp [divs, divAcc, div, increments, timaAcc, timaAfter_add _ _ (toNat_le_255 t.tma),
      Nat.mod_eq_of_lt (Nat.lt_succ_of_le byte)]

/-- R410: a bit of IF that is set stays set. -/
theorem Irq.request_request (q : Irq) (k : IrqSource) : (q.request k).request k = q.request k := by
  simp only [Irq.request, BitVec.or_assoc, BitVec.or_self]

/-- R442, R443: the timer misses nothing. -/
theorem State.timerAdvance_add (s : State) (m n : Nat) : s.timerAdvance (m + n) = (s.timerAdvance m).timerAdvance n := by
  obtain ⟨after, overflows⟩ := s.timer.after_add m n
  simp only [State.timerAdvance_eq, after, overflows]
  cases s.timer.overflows m <;> cases (s.timer.after m).overflows n <;> simp [Irq.request_request]

end Sys2Proof.Machine
end

section
/-! PROOFS. The PPU over an advance by any number of cycles (R461). -/

namespace Sys2Proof.Machine

open Sys2Proof.Claims

/-! ### The mode sequence, run to its end -/

/-- R461: every transition that has elapsed, the STAT line evaluated after each. -/
def State.runModes (s : State) : State := State.ppuLoop (s.ppu.modeCycles / 80) s

theorem State.ppuAdvance_eq_runModes {s : State} (n : Nat) (on : s.ppu.lcdc.getLsbD 7 = true) :
    s.ppuAdvance n = (s.addModeCycles n).runModes := State.ppuAdvance_on n on

theorem State.duration_le_of_transition {s t : State} (h : s.ppuTransition = some t) :
    s.ppu.mode.duration ≤ s.ppu.modeCycles := by
  by_contra short
  rw [State.ppuTransition_none (Nat.lt_of_not_le short)] at h
  cases h

/-- R461: what a transition does, from the transition itself. -/
theorem State.ppuTransition_modeEnded {s t : State} (h : s.ppuTransition = some t) : ModeEnded s t := by
  obtain ⟨u, hu, ended⟩ := State.ppuTransition_some (State.duration_le_of_transition h)
  cases h.symm.trans hu
  exact ended

/-- R461: a transition takes a mode's duration, 80 cycles or more, off the mode's cycles. -/
theorem State.evalStat_modeCycles_of_transition {s t : State} (h : s.ppuTransition = some t) :
    t.evalStat.ppu.modeCycles + 80 ≤ s.ppu.modeCycles := by
  have long := State.duration_le_of_transition h
  have := s.ppu.mode.duration_ge
  simp only [State.evalStat_ppu, (State.ppuTransition_modeEnded h).cycles]
  omega

/-- R461: a turn of the loop for each 80 cycles is enough, and more turns change nothing. -/
theorem State.ppuLoop_congr {j k : Nat} {s : State} (hj : s.ppu.modeCycles / 80 ≤ j) (hk : s.ppu.modeCycles / 80 ≤ k) :
    State.ppuLoop j s = State.ppuLoop k s := by
  induction j generalizing k s with
  | zero =>
    have := s.ppu.mode.duration_ge
    have none : s.ppuTransition = none := State.ppuTransition_none (by omega)
    rw [State.ppuLoop_of_none none, State.ppuLoop_of_none none]
  | succ j ih =>
    cases next : s.ppuTransition with
    | none => rw [State.ppuLoop_of_none next, State.ppuLoop_of_none next]
    | some t =>
      have less := State.evalStat_modeCycles_of_transition next
      obtain ⟨k, rfl⟩ : ∃ i, k = i + 1 := ⟨k - 1, by omega⟩
      simp only [State.ppuLoop, next]
      exact ih (by omega) (by omega)

theorem State.runModes_of_none {s : State} (h : s.ppuTransition = none) : s.runModes = s := State.ppuLoop_of_none h _

theorem State.runModes_of_some {s t : State} (h : s.ppuTransition = some t) : s.runModes = t.evalStat.runModes := by
  have less := State.evalStat_modeCycles_of_transition h
  obtain ⟨fuel, e⟩ : ∃ fuel, s.ppu.modeCycles / 80 = fuel + 1 := ⟨s.ppu.modeCycles / 80 - 1, by omega⟩
  rw [State.runModes, e, State.ppuLoop, h]
  exact State.ppuLoop_congr (by omega) (Nat.le_refl _)

/-- R461: what holds of every state with no elapsed transition, and of a state when of the one after its transition, holds
of every state. -/
theorem State.runModes_induction {P : State → Prop} (s : State) (rest : ∀ u : State, u.ppuTransition = none → P u)
    (turn : ∀ u t : State, u.ppuTransition = some t → P t.evalStat → P u) : P s := by
  induction cycles : s.ppu.modeCycles using Nat.strong_induction_on generalizing s with
  | _ n ih =>
    subst cycles
    cases next : s.ppuTransition with
    | none => exact rest s next
    | some t =>
      have less := State.evalStat_modeCycles_of_transition next
      exact turn s t next (ih _ (by omega) _ rfl)

/-! ### Advances in a row -/

theorem State.addModeCycles_add (s : State) (m n : Nat) :
    s.addModeCycles (m + n) = (s.addModeCycles m).addModeCycles n := by
  simp only [State.addModeCycles, Nat.add_assoc]

/-- R465: the STAT line does not look at the mode's cycles. -/
theorem State.evalStat_addModeCycles (s : State) (n : Nat) :
    (s.addModeCycles n).evalStat = s.evalStat.addModeCycles n := by
  simp only [State.evalStat_eq]
  rfl

section
variable (p : Ppu) (cycles : Nat) (mem : Memory)

theorem Ppu.spriteAt_modeCycles (x : Nat) (order : List Nat) :
    Ppu.spriteAt { p with modeCycles := cycles } mem x order = p.spriteAt mem x order := by
  induction order with
  | nil => rfl
  | cons i rest ih =>
    simp only [Ppu.spriteAt, ih]
    rfl

/-- R464, R470: the picture does not depend on the mode's cycles. -/
theorem Ppu.renderLine_modeCycles (shades : Shades) :
    Ppu.renderLine { p with modeCycles := cycles } shades mem =
      { p.renderLine shades mem with modeCycles := cycles } := by
  simp only [Ppu.renderLine, Ppu.pixelShade, Ppu.spriteAt_modeCycles]
  rfl

end

/-- R461: a transition looks at the mode's cycles only to know whether its duration has elapsed. -/
theorem State.ppuTransition_addModeCycles {s t : State} (n : Nat) (h : s.ppuTransition = some t) :
    (s.addModeCycles n).ppuTransition = some (t.addModeCycles n) := by
  have long := State.duration_le_of_transition h
  have carried : s.ppu.modeCycles + n - s.ppu.mode.duration = s.ppu.modeCycles - s.ppu.mode.duration + n := by omega
  unfold State.ppuTransition State.addModeCycles at *
  cases mode : s.ppu.mode <;> simp only [mode, PpuMode.duration] at h long carried ⊢ <;>
    rw [if_pos (by omega)] at h ⊢
  case oamScan =>
    cases h
    simp only [carried]
    rfl
  case drawing =>
    cases h
    rw [← mode, Ppu.renderLine_modeCycles, carried]
  case hblank =>
    split at h <;> cases h
    next last => rw [if_pos last, carried]; rfl
    next line => rw [if_neg line, carried]
  case vblank =>
    split at h <;> cases h
    next last => rw [if_pos last, carried]
    next line => rw [if_neg line, carried]

/-- R461: cycles added after the transitions are as good as cycles added before them. -/
theorem State.runModes_addModeCycles (s : State) (n : Nat) :
    (s.runModes.addModeCycles n).runModes = (s.addModeCycles n).runModes := by
  refine State.runModes_induction (P := fun s => (s.runModes.addModeCycles n).runModes = (s.addModeCycles n).runModes) s
    (fun u none => ?_) (fun u t some ih => ?_)
  · rw [State.runModes_of_none none]
  · rw [State.runModes_of_some some, ih, State.runModes_of_some (State.ppuTransition_addModeCycles n some),
      State.evalStat_addModeCycles]

theorem State.runModes_lcdc (s : State) : s.runModes.ppu.lcdc = s.ppu.lcdc := by
  refine State.runModes_induction (P := fun s => s.runModes.ppu.lcdc = s.ppu.lcdc) s (fun u none => ?_)
    (fun u t some ih => ?_)
  · rw [State.runModes_of_none none]
  · rw [State.runModes_of_some some, ih, State.evalStat_ppu, (State.ppuTransition_modeEnded some).lcdc]

theorem State.ppuAdvance_lcdc (s : State) (n : Nat) : (s.ppuAdvance n).ppu.lcdc = s.ppu.lcdc := by
  cases lcd : s.ppu.lcdc.getLsbD 7 with
  | false => rw [State.ppuAdvance_off n lcd]
  | true => rw [State.ppuAdvance_eq_runModes n lcd, State.runModes_lcdc, State.addModeCycles]

/-- R461: the PPU misses nothing. -/
theorem State.ppuAdvance_add (s : State) (m n : Nat) : s.ppuAdvance (m + n) = (s.ppuAdvance m).ppuAdvance n := by
  cases lcd : s.ppu.lcdc.getLsbD 7 with
  | false => rw [State.ppuAdvance_off _ lcd, State.ppuAdvance_off m lcd, State.ppuAdvance_off n lcd]
  | true =>
    have on : (s.ppuAdvance m).ppu.lcdc.getLsbD 7 = true := by rw [State.ppuAdvance_lcdc, lcd]
    rw [State.ppuAdvance_eq_runModes n on, State.ppuAdvance_eq_runModes m lcd, State.ppuAdvance_eq_runModes _ lcd,
      State.runModes_addModeCycles, State.addModeCycles_add]

/-- Settles O49: the residuals carried make the two advances count what the one does. -/
theorem devicesMissNothing : Obligations.DevicesMissNothing :=
  fun s m n => ⟨s.timerAdvance_add m n, s.ppuAdvance_add m n⟩

end Sys2Proof.Machine
end

section
/-! PROOFS. The invariants of the timer and the PPU over a step (R441, R460, R461, R463, R465, R467). -/

namespace Sys2Proof.Machine

open Sys2Proof.Claims

/-! ### What the devices' advance does to each device -/

theorem State.runModes_rest (s : State) : s.runModes = { s with ppu := s.runModes.ppu, irq := s.runModes.irq } := by
  refine State.runModes_induction
    (P := fun s => s.runModes = { s with ppu := s.runModes.ppu, irq := s.runModes.irq }) s
    (fun u none => ?_) (fun u t some ih => ?_)
  · rw [State.runModes_of_none none]
  · rw [State.runModes_of_some some, ih, State.evalStat_eq, (State.ppuTransition_modeEnded some).rest]

/-- R461: an advance of the PPU changes the PPU and IF alone. -/
theorem State.ppuAdvance_rest (s : State) (n : Nat) :
    s.ppuAdvance n = { s with ppu := (s.ppuAdvance n).ppu, irq := (s.ppuAdvance n).irq } := by
  cases lcd : s.ppu.lcdc.getLsbD 7 with
  | false => rw [State.ppuAdvance_off n lcd]
  | true =>
    rw [State.ppuAdvance_eq_runModes n lcd, State.runModes_rest]
    rfl

section
variable (s : State) (n : Nat)

theorem State.advanceDevices_timer : (s.advanceDevices n).timer = s.timer.after n := by
  simp only [State.advanceDevices, State.joypadAdvance, State.timerAdvance_eq, State.apuAdvance]
  rw [s.ppuAdvance_rest n]

theorem State.advanceDevices_ppu : (s.advanceDevices n).ppu = (s.ppuAdvance n).ppu := by
  simp only [State.advanceDevices, State.joypadAdvance, State.timerAdvance_eq, State.apuAdvance]

theorem State.advanceDevices_apu : (s.advanceDevices n).apu = (s.apuAdvance n).apu := by
  simp only [State.advanceDevices, State.joypadAdvance, State.timerAdvance_eq, State.apuAdvance]
  rw [s.ppuAdvance_rest n]

end

/-! ### What a bus write does to a device -/

/-- A property that the memories, the cartridge, IE and IF do not bear on is kept by every write if it is by the writes to
the registers. -/
theorem State.write_keeps {P : State → Prop} {s : State} {a : Word} {v : Byte} (hs : P s)
    (mem : ∀ m, P { s with mem := m }) (cart : ∀ c, P { s with cart := c }) (irq : ∀ q, P { s with irq := q })
    (io : ∀ r, P (s.writeIo r a v)) : P (s.write a v) := by
  unfold State.write
  cases regionOf a with
  | rom | extRam => exact cart _
  | vram | oam =>
    dsimp only
    split
    · exact hs
    · exact mem _
  | wram | echo | hram => exact mem _
  | unusable => exact hs
  | io => exact io _
  | ie => exact irq _

/-- R88: the writes with effects on the PPU or on OAM leave the timer and the APU alone. -/
theorem State.writeIo_video (s : State) {r : IoReg} (a : Word) (v : Byte)
    (video : r = .lcdc ∨ r = .stat ∨ r = .ly ∨ r = .lyc ∨ r = .dma) :
    (s.writeIo r a v).timer = s.timer ∧ (s.writeIo r a v).apu = s.apu := by
  have viaStat (p : Ppu) : (State.evalStat { s with ppu := p }).timer = s.timer ∧
      (State.evalStat { s with ppu := p }).apu = s.apu := by
    rw [State.evalStat_eq]
    exact ⟨rfl, rfl⟩
  rcases video with rfl | rfl | rfl | rfl | rfl
  · unfold State.writeIo State.writeLcdc
    dsimp only
    split
    · exact ⟨rfl, rfl⟩
    · split <;> exact viaStat _
  · exact viaStat _
  · exact viaStat _
  · exact viaStat _
  · unfold State.writeIo State.writeDma
    rw [State.oamDma_eq]
    exact ⟨rfl, rfl⟩

/-! ### The timer -/

theorem Timer.after_ok {t : Timer} (n : Nat) (h : t.Ok) : (t.after n).Ok := by
  refine ⟨Nat.mod_lt _ (by decide), ?_⟩
  show (if t.tac.getLsbD 2 then (t.timaAcc + n) % timaPeriod t.tac else t.timaAcc) < timaPeriod t.tac
  split
  · exact Nat.mod_lt _ (timaPeriod_pos t.tac)
  · exact h.2

theorem State.writeIo_timerOk {s : State} (r : IoReg) (a : Word) (v : Byte) (h : s.timer.Ok) :
    (s.writeIo r a v).timer.Ok := by
  cases r
  case div => exact ⟨Nat.zero_lt_succ _, h.2⟩
  case tac => exact ⟨h.1, timaPeriod_pos _⟩
  case lcdc | stat | ly | lyc | dma =>
    rw [(s.writeIo_video a v ?_).1]
    · exact h
    · decide
  all_goals exact h

theorem step_keepsTimer {s t : State} (h : step s = .next t) (ok : s.timer.Ok) : t.timer.Ok :=
  step_keeps (P := fun u => u.timer.Ok) h (fun _ _ _ hu => hu)
    (fun _ a v hu => State.write_keeps (P := fun u => u.timer.Ok) hu (fun _ => hu) (fun _ => hu) (fun _ => hu)
      (fun r => State.writeIo_timerOk r a v hu))
    (fun _ _ hu => hu) (fun u n hu => (u.advanceDevices_timer n).symm ▸ Timer.after_ok n hu) ok

/-! ### The PPU over an advance -/

/-- The parts of `Ppu.Ok` that the picture alone bears on (R460, R463). -/
structure Ppu.Shaped (p : Ppu) : Prop where
  sprites : p.sprites.length ≤ 10 ∧ ∀ i ∈ p.sprites, i < 40
  bgIndex : p.bgIndex.length = 160
  work    : FrameShape p.work
  output  : FrameShape p.output

theorem Ppu.Ok.shaped {p : Ppu} (h : p.Ok) : p.Shaped := ⟨h.sprites, h.bgIndex, h.work, h.output⟩

/-- R463: the scan keeps 10 entries of the 40 at most. -/
theorem Ppu.scanOam_bounds (p : Ppu) (mem : Memory) :
    (p.scanOam mem).length ≤ 10 ∧ ∀ i ∈ p.scanOam mem, i < 40 := by
  refine ⟨List.length_take_le .., fun i hi => ?_⟩
  exact List.mem_range.mp (List.mem_filter.mp (List.mem_of_mem_take hi)).1

/-- R471: a line of 160 pixels put into a frame keeps its shape. -/
theorem FrameShape.set {f : List (List Rgba)} (h : FrameShape f) (i : Nat) {row : List Rgba} (len : row.length = 160) :
    FrameShape (f.set i row) := by
  refine ⟨(List.length_set ..).trans h.1, fun r hr => ?_⟩
  obtain old | rfl := List.mem_or_eq_of_mem_set hr
  · exact h.2 r old
  · exact len

theorem blankFrame_shape (p : Rgba) : FrameShape (blankFrame p) := by
  refine ⟨List.length_replicate .., fun row hrow => ?_⟩
  rw [(List.mem_replicate.mp hrow).2, List.length_replicate]

theorem State.ppuTransition_shaped {s t : State} (next : s.ppuTransition = some t) (h : s.ppu.Shaped) : t.ppu.Shaped := by
  have long := State.duration_le_of_transition next
  unfold State.ppuTransition at next
  cases mode : s.ppu.mode <;> simp only [mode, PpuMode.duration] at next long <;> rw [if_pos long] at next
  case oamScan =>
    cases next
    exact ⟨s.ppu.scanOam_bounds s.mem, h.bgIndex, h.work, h.output⟩
  case drawing =>
    cases next
    exact ⟨h.sprites, by simp [Ppu.renderLine], h.work.set _ (by simp), h.output⟩
  case hblank =>
    split at next <;> cases next
    · exact ⟨h.sprites, h.bgIndex, h.work, h.work⟩
    · exact ⟨h.sprites, h.bgIndex, h.work, h.output⟩
  case vblank => split at next <;> cases next <;> exact ⟨h.sprites, h.bgIndex, h.work, h.output⟩

/-- R461: the next mode's line is on the screen, and in V-blank exactly from line 144 on. -/
theorem nextMode_line {m : PpuMode} {line : Nat} (bound : line < 154) (vblank : m = .vblank ↔ 144 ≤ line) :
    (nextMode m line).2 < 154 ∧ ((nextMode m line).1 = .vblank ↔ 144 ≤ (nextMode m line).2) := by
  cases m <;> simp only [nextMode, reduceCtorEq, false_iff, true_iff] at vblank ⊢
  case oamScan | drawing => exact ⟨bound, vblank⟩
  case hblank =>
    refine ⟨by omega, ?_⟩
    split
    next last => simp [last]
    next line => simp; omega
  case vblank =>
    split
    · simp
    · simp; omega

theorem ModeEnded.line_ok {s t : State} (ended : ModeEnded s t) (bound : s.ppu.line < 154)
    (vblank : s.ppu.mode = .vblank ↔ 144 ≤ s.ppu.line) :
    t.ppu.line < 154 ∧ (t.ppu.mode = .vblank ↔ 144 ≤ t.ppu.line) := by
  have mode : t.ppu.mode = (nextMode s.ppu.mode s.ppu.line).1 := congrArg Prod.fst ended.next
  have line : t.ppu.line = (nextMode s.ppu.mode s.ppu.line).2 := congrArg Prod.snd ended.next
  rw [mode, line]
  exact nextMode_line bound vblank

theorem ModeEnded.lcdOn {s t : State} (ended : ModeEnded s t) : t.ppu.lcdOn = s.ppu.lcdOn :=
  congrArg (·.getLsbD 7) ended.lcdc

theorem PpuMode.duration_pos (m : PpuMode) : 0 < m.duration := Nat.lt_of_lt_of_le (by decide) m.duration_ge

/-- R461, R467: with the LCD on a legal PPU may stand at any cycle of its mode. -/
theorem Ppu.Ok.setModeCycles {p : Ppu} (h : p.Ok) {c : Nat} (on : p.lcdOn = true) (short : c < p.mode.duration) :
    Ppu.Ok { p with modeCycles := c } :=
  { h with elapsed := short, off := fun off => absurd (off.symm.trans on) (by decide) }

theorem State.ppuTransition_ok {s t : State} (next : s.ppuTransition = some t) (on : s.ppu.lcdOn = true)
    (h : Ppu.Ok { s.ppu with modeCycles := 0 }) : Ppu.Ok { t.evalStat.ppu with modeCycles := 0 } := by
  have ended := State.ppuTransition_modeEnded next
  have shaped := State.ppuTransition_shaped next ⟨h.sprites, h.bgIndex, h.work, h.output⟩
  obtain ⟨line, vblank⟩ := ended.line_ok h.line h.vblank
  have on' : t.ppu.lcdOn = true := ended.lcdOn.trans on
  rw [State.evalStat_ppu]
  exact ⟨line, vblank, t.ppu.mode.duration_pos, shaped.sprites, shaped.bgIndex, shaped.work, shaped.output,
    fun off => absurd (off.symm.trans on') (by decide), rfl⟩

theorem State.runModes_ok {s : State} (on : s.ppu.lcdOn = true) (h : Ppu.Ok { s.ppu with modeCycles := 0 }) :
    s.runModes.ppu.Ok := by
  revert on h
  refine State.runModes_induction
    (P := fun s => s.ppu.lcdOn = true → Ppu.Ok { s.ppu with modeCycles := 0 } → s.runModes.ppu.Ok) s
    (fun u none on h => ?_) (fun u t some ih on h => ?_)
  · rw [State.runModes_of_none none]
    refine h.setModeCycles on (Nat.lt_of_not_le fun long => ?_)
    obtain ⟨t, some, -⟩ := State.ppuTransition_some long
    cases none.symm.trans some
  · rw [State.runModes_of_some some]
    refine ih ?_ (State.ppuTransition_ok some on h)
    rw [State.evalStat_ppu]
    exact (State.ppuTransition_modeEnded some).lcdOn.trans on

theorem State.ppuAdvance_ok {s : State} (n : Nat) (h : s.ppu.Ok) : (s.ppuAdvance n).ppu.Ok := by
  cases lcd : s.ppu.lcdc.getLsbD 7 with
  | false => rwa [State.ppuAdvance_off n lcd]
  | true =>
    rw [State.ppuAdvance_eq_runModes n lcd]
    exact State.runModes_ok lcd (h.setModeCycles lcd s.ppu.mode.duration_pos)

/-! ### The PPU over a write -/

/-- R466, R467: a PPU put at the first cycle of the frame is legal, in H-blank with the LCD off. -/
theorem Ppu.Shaped.ok_at_start {p : Ppu} (h : p.Shaped) (line : p.line = 0) (cycles : p.modeCycles = 0)
    (mode : p.mode ≠ .vblank) (off : p.lcdOn = false → p.mode = .hblank) (stat : p.statLine = p.statLevel) : p.Ok where
  line := by omega
  vblank := ⟨fun vblank => absurd vblank mode, by omega⟩
  elapsed := cycles ▸ p.mode.duration_pos
  sprites := h.sprites
  bgIndex := h.bgIndex
  work := h.work
  output := h.output
  off lcd := ⟨off lcd, line, cycles⟩
  stat := stat

theorem Ppu.statLevel_off {p : Ppu} (off : p.lcdOn = false) : p.statLevel = false := by
  rw [Ppu.statLevel, off, Bool.false_and]

section
variable {s : State} (v : Byte) (h : s.ppu.Ok)
include h

/-- R467: LCDC switches the LCD off or on, or keeps it as it is. -/
theorem State.writeLcdc_ok : (s.writeLcdc v).ppu.Ok := by
  obtain ⟨sprites, bgIndex, work, output⟩ := h.shaped
  cases was : s.ppu.lcdc.getLsbD 7 <;> cases now : v.getLsbD 7
  case true.false =>
    rw [State.writeLcdc_off s v was now]
    have blank := blankFrame_shape s.config.shades.s0
    exact Ppu.Shaped.ok_at_start ⟨sprites, bgIndex, blank, blank⟩ rfl rfl (by decide : PpuMode.hblank ≠ .vblank)
      (fun _ => rfl) (Eq.symm (Ppu.statLevel_off now))
  case false.true =>
    rw [State.writeLcdc_on s v was now, State.evalStat_ppu]
    exact Ppu.Shaped.ok_at_start ⟨sprites, bgIndex, work, output⟩ rfl rfl (by decide : PpuMode.oamScan ≠ .vblank)
      (fun off => absurd (off.symm.trans now) (by decide)) rfl
  all_goals
    have same := was.trans now.symm
    rw [State.writeLcdc_kept s v same, State.evalStat_ppu]
    exact { h with off := fun off => h.off (same.trans off), stat := rfl }

/-- R466: a write to LY restarts the frame. -/
theorem State.writeLy_ok : s.writeLy.ppu.Ok := by
  obtain ⟨sprites, bgIndex, work, output⟩ := h.shaped
  unfold State.writeLy
  rw [State.evalStat_ppu]
  cases lcd : s.ppu.lcdOn with
  | true =>
    exact Ppu.Shaped.ok_at_start ⟨sprites, bgIndex, work, output⟩ rfl rfl (by decide : PpuMode.oamScan ≠ .vblank)
      (fun off => absurd (off.symm.trans lcd) (by decide)) rfl
  | false =>
    have mode : s.ppu.mode = .hblank := (h.off lcd).1
    exact Ppu.Shaped.ok_at_start ⟨sprites, bgIndex, work, output⟩ rfl rfl (fun vblank => by simp [mode] at vblank)
      (fun _ => mode) rfl

theorem State.writeIo_ppuOk (r : IoReg) (a : Word) : (s.writeIo r a v).ppu.Ok := by
  cases r
  case lcdc => exact State.writeLcdc_ok v h
  case ly => exact State.writeLy_ok h
  case stat =>
    unfold State.writeIo State.writeStat
    rw [State.evalStat_ppu]
    exact { h with stat := rfl }
  case lyc =>
    unfold State.writeIo State.writeLyc
    rw [State.evalStat_ppu]
    exact { h with stat := rfl }
  case dma =>
    unfold State.writeIo State.writeDma
    rw [State.oamDma_eq]
    exact h
  case scy | scx | bgp | obp0 | obp1 | wy | wx => exact { h with }
  all_goals exact h

end

theorem step_keepsPpu {s t : State} (h : step s = .next t) (ok : s.ppu.Ok) : t.ppu.Ok :=
  step_keeps (P := fun u => u.ppu.Ok) h (fun _ _ _ hu => hu)
    (fun _ a v hu => State.write_keeps (P := fun u => u.ppu.Ok) hu (fun _ => hu) (fun _ => hu) (fun _ => hu)
      (fun r => State.writeIo_ppuOk v hu r a))
    (fun _ _ hu => hu) (fun u n hu => (u.advanceDevices_ppu n).symm ▸ State.ppuAdvance_ok n hu) ok

/-- Settles O58: a step is made of CPU changes, bus writes and the devices' advance, and of the writes only those to their
own registers touch the timer and the PPU. -/
theorem stepKeepsPpu : Obligations.StepKeepsPpu :=
  fun _ _ h => ⟨step_keepsTimer h, step_keepsPpu h⟩

end Sys2Proof.Machine
end

section
/-! PROOFS. The period of a frame: where the PPU stands, cycle by cycle, and its one V-blank (R461, R468, R548). -/

namespace Sys2Proof.Machine

open Sys2Proof.Claims

/-! ### The place in the frame -/

/-- R461: the cycle of its line at which a mode begins. -/
def PpuMode.start : PpuMode → Nat
  | .oamScan => 0
  | .drawing => 80
  | .hblank => 252
  | .vblank => 0

/-- R461: the cycles since the frame began at line 0; a line takes 456. -/
def Ppu.frameCycle (p : Ppu) : Nat := 456 * p.line + p.mode.start + p.modeCycles

/-- R461: a legal PPU's mode, line and mode cycle are those of its place in the frame: the modes' spans of a line do not
overlap. -/
theorem Ppu.Ok.eq_of_frameCycle {p q : Ppu} (hp : p.Ok) (hq : q.Ok) (e : p.frameCycle = q.frameCycle) :
    p.mode = q.mode ∧ p.line = q.line ∧ p.modeCycles = q.modeCycles := by
  obtain ⟨-, vp, ep, -⟩ := hp
  obtain ⟨-, vq, eq, -⟩ := hq
  unfold Ppu.frameCycle at e
  cases mp : p.mode <;> cases mq : q.mode <;>
    simp only [mp, mq, PpuMode.start, PpuMode.duration, reduceCtorEq, true_iff, false_iff, true_and, false_and]
      at e vp vq ep eq ⊢ <;>
    omega

theorem Ppu.Ok.frameCycle_lt {p : Ppu} (h : p.Ok) : p.frameCycle < 70224 := by
  obtain ⟨line, -, elapsed, -⟩ := h
  unfold Ppu.frameCycle
  cases mode : p.mode <;> simp only [mode, PpuMode.start, PpuMode.duration] at elapsed ⊢ <;> omega

section
variable {m : PpuMode} {line : Nat} (bound : line < 154) (vblank : m = .vblank ↔ 144 ≤ line)
include bound vblank

/-- R461: the next mode begins where the last one ended, and after line 153 the frame begins again. -/
theorem nextMode_frameCycle :
    456 * (nextMode m line).2 + (nextMode m line).1.start = (456 * line + m.start + m.duration) % 70224 := by
  cases m <;> simp only [nextMode, PpuMode.duration, reduceCtorEq, true_iff, false_iff] at vblank ⊢
  case oamScan | drawing =>
    simp only [PpuMode.start]
    omega
  all_goals
    split <;> simp only [PpuMode.start] <;> omega

/-- R461: the modes' ends, but the last H-blank's, are no first cycle of line 144. -/
theorem modeEnd_eq_vblank_iff :
    (456 * line + m.start + m.duration) % 70224 = 65664 ↔ m = .hblank ∧ line + 1 = 144 := by
  cases m <;> simp only [PpuMode.start, PpuMode.duration, reduceCtorEq, true_iff, false_iff, true_and, false_and,
    iff_false] at vblank ⊢ <;> omega

end

/-! ### One cycle -/

/-- R468: what entering line 144 does to the frame, and that no other transition touches `frameComplete`. -/
theorem State.ppuTransition_frame {s t : State} (next : s.ppuTransition = some t) :
    if s.ppu.mode = .hblank ∧ s.ppu.line + 1 = 144 then t.ppu.frameComplete = true ∧ t.ppu.output = t.ppu.work
    else t.ppu.frameComplete = s.ppu.frameComplete := by
  have long := State.duration_le_of_transition next
  unfold State.ppuTransition at next
  cases mode : s.ppu.mode <;> simp only [mode, PpuMode.duration] at next long <;> rw [if_pos long] at next
  case oamScan | drawing => cases next; simp [mode, Ppu.renderLine]
  case hblank => split at next <;> cases next <;> simp [*, State.enterVblank]
  case vblank => split at next <;> cases next <;> simp

/-- `t` is `s` one cycle later: one place on in the frame; at the first cycle of line 144 V-blank is requested and the frame
published, and at no other cycle. -/
structure OneCycle (s t : State) : Prop where
  ok       : t.ppu.Ok
  on       : t.ppu.lcdOn = true
  place    : t.ppu.frameCycle = (s.ppu.frameCycle + 1) % 70224
  vblank   : t.ppu.frameCycle = 65664 →
    requested t .vblank = true ∧ t.ppu.frameComplete = true ∧ t.ppu.output = t.ppu.work
  quiet    : t.ppu.frameCycle ≠ 65664 →
    requested t .vblank = requested s .vblank ∧ t.ppu.frameComplete = s.ppu.frameComplete

theorem requested_evalStat (s : State) : requested s.evalStat .vblank = requested s .vblank := by
  rw [State.evalStat_eq]
  split
  · exact (requested_request s .lcdStat .vblank).trans (Bool.or_false _)
  · rfl

section
variable {s : State} (h : s.ppu.Ok) (on : s.ppu.lcdOn = true)
include h on

theorem State.ppuAdvance_one_within (within : s.ppu.modeCycles + 1 < s.ppu.mode.duration) :
    OneCycle s (s.ppuAdvance 1) := by
  have ok := State.ppuAdvance_ok 1 h
  have advance := State.ppuAdvance_within (n := 1) on within
  have place : (s.addModeCycles 1).ppu.frameCycle = s.ppu.frameCycle + 1 := rfl
  have bound := ok.frameCycle_lt
  have inside : s.ppu.frameCycle + 1 ≠ 65664 := by
    obtain ⟨line, vblank, -⟩ := h
    unfold Ppu.frameCycle
    cases mode : s.ppu.mode <;>
      simp only [mode, PpuMode.start, PpuMode.duration, reduceCtorEq, true_iff, false_iff] at within vblank ⊢ <;>
      omega
  rw [advance] at ok bound ⊢
  rw [place] at bound
  exact ⟨ok, on, by omega, fun e => absurd (place.symm.trans e) inside, fun _ => ⟨rfl, rfl⟩⟩

theorem State.ppuAdvance_one_end (whole : s.ppu.modeCycles + 1 = s.ppu.mode.duration) : OneCycle s (s.ppuAdvance 1) := by
  have ok := State.ppuAdvance_ok 1 h
  obtain ⟨t, next, ended⟩ := State.ppuTransition_some (s := s.addModeCycles 1) whole.ge
  have frame := State.ppuTransition_frame next
  have zero : t.ppu.modeCycles = 0 := ended.cycles.trans (Nat.sub_eq_zero_of_le whole.le)
  have resting : t.evalStat.ppuTransition = none := by
    apply State.ppuTransition_none
    rw [State.evalStat_ppu]
    exact zero ▸ t.ppu.mode.duration_pos
  have advance : s.ppuAdvance 1 = t.evalStat := by
    rw [State.ppuAdvance_eq_runModes 1 on, State.runModes_of_some next, State.runModes_of_none resting]
  have place : t.evalStat.ppu.frameCycle = (s.ppu.frameCycle + 1) % 70224 := by
    have mode : t.ppu.mode = (nextMode s.ppu.mode s.ppu.line).1 := congrArg Prod.fst ended.next
    have line : t.ppu.line = (nextMode s.ppu.mode s.ppu.line).2 := congrArg Prod.snd ended.next
    have start := nextMode_frameCycle h.line h.vblank
    rw [← mode, ← line, ← whole] at start
    rw [State.evalStat_ppu]
    simpa only [Ppu.frameCycle, zero, Nat.add_assoc, Nat.add_zero] using start
  have enters : t.evalStat.ppu.frameCycle = 65664 ↔
      (s.addModeCycles 1).ppu.mode = .hblank ∧ (s.addModeCycles 1).ppu.line + 1 = 144 := by
    rw [place, Ppu.frameCycle, Nat.add_assoc, whole]
    exact modeEnd_eq_vblank_iff h.line h.vblank
  have irq := ended.irq
  rw [advance] at ok ⊢
  refine ⟨ok, ?on, place, fun e => ?vblank, fun e => ?quiet⟩
  case on =>
    rw [State.evalStat_ppu]
    exact ended.lcdOn.trans on
  case vblank =>
    rw [requested_evalStat, State.evalStat_ppu]
    rw [if_pos (enters.mp e)] at frame irq
    refine ⟨?_, frame⟩
    rw [requested, irq, Irq.request_getLsbD _ _ (by decide)]
    simp
  case quiet =>
    rw [requested_evalStat, State.evalStat_ppu]
    rw [if_neg (mt enters.mpr e)] at frame irq
    exact ⟨by rw [requested, irq, requested]; rfl, frame⟩

theorem State.ppuAdvance_one : OneCycle s (s.ppuAdvance 1) := by
  obtain within | whole := Nat.lt_or_eq_of_le (Nat.succ_le_of_lt h.elapsed)
  · exact State.ppuAdvance_one_within h on within
  · exact State.ppuAdvance_one_end h on whole

/-! ### Any number of cycles -/

theorem State.ppuAdvance_zero : s.ppuAdvance 0 = s := State.ppuAdvance_within on h.elapsed

theorem State.ppuAdvance_on_screen (n : Nat) : (s.ppuAdvance n).ppu.Ok ∧ (s.ppuAdvance n).ppu.lcdOn = true :=
  ⟨State.ppuAdvance_ok n h, by rwa [Ppu.lcdOn, State.ppuAdvance_lcdc]⟩

theorem State.ppuAdvance_succ (n : Nat) : OneCycle (s.ppuAdvance n) (s.ppuAdvance (n + 1)) := by
  obtain ⟨ok, lcd⟩ := State.ppuAdvance_on_screen h on n
  rw [State.ppuAdvance_add]
  exact State.ppuAdvance_one ok lcd

/-- R461: `n` cycles are `n` places on in the frame. -/
theorem State.ppuAdvance_frameCycle (n : Nat) :
    (s.ppuAdvance n).ppu.frameCycle = (s.ppu.frameCycle + n) % 70224 := by
  induction n with
  | zero => rw [State.ppuAdvance_zero h on, Nat.add_zero, Nat.mod_eq_of_lt h.frameCycle_lt]
  | succ n ih => rw [(State.ppuAdvance_succ h on n).place, ih, Nat.mod_add_mod, Nat.add_assoc]

/-- R468: cycles none of which is the first of line 144 request no V-blank and complete no frame. -/
theorem State.ppuAdvance_quiet {n : Nat} (quiet : ∀ j, 0 < j → j ≤ n → (s.ppu.frameCycle + j) % 70224 ≠ 65664) :
    requested (s.ppuAdvance n) .vblank = requested s .vblank ∧
      (s.ppuAdvance n).ppu.frameComplete = s.ppu.frameComplete := by
  induction n with
  | zero => rw [State.ppuAdvance_zero h on]; exact ⟨rfl, rfl⟩
  | succ n ih =>
    obtain ⟨requests, frame⟩ := ih fun j pos le => quiet j pos (Nat.le_succ_of_le le)
    obtain ⟨requests', frame'⟩ := (State.ppuAdvance_succ h on n).quiet
      (State.ppuAdvance_frameCycle h on (n + 1) ▸ quiet (n + 1) (Nat.succ_pos n) (Nat.le_refl _))
    exact ⟨requests'.trans requests, frame'.trans frame⟩

/-- R468: the first cycle of line 144 requests V-blank and publishes the frame. -/
theorem State.ppuAdvance_vblank {n : Nat} (pos : 0 < n) (enters : (s.ppu.frameCycle + n) % 70224 = 65664) :
    requested (s.ppuAdvance n) .vblank = true ∧ (s.ppuAdvance n).ppu.frameComplete = true ∧
      (s.ppuAdvance n).ppu.output = (s.ppuAdvance n).ppu.work := by
  obtain ⟨n, rfl⟩ := Nat.exists_eq_add_one_of_ne_zero pos.ne'
  exact (State.ppuAdvance_succ h on n).vblank ((State.ppuAdvance_frameCycle h on _).trans enters)

end

/-- From the first cycle of line 144, less than a frame later, no cycle is the first of line 144. -/
theorem vblank_once {c n : Nat} (start : c = 65664) (short : n < 70224) (j : Nat) (pos : 0 < j) (le : j ≤ n) :
    (c + j) % 70224 ≠ 65664 := by
  omega

/-- The cycles to the next first cycle of line 144. -/
def Ppu.cyclesToVblank (p : Ppu) : Nat := if p.frameCycle < 65664 then 65664 - p.frameCycle else 135888 - p.frameCycle

theorem Ppu.Ok.cyclesToVblank_spec {p : Ppu} (h : p.Ok) :
    0 < p.cyclesToVblank ∧ p.cyclesToVblank ≤ 70224 ∧ (p.frameCycle + p.cyclesToVblank) % 70224 = 65664 ∧
      ∀ j, 0 < j → j < p.cyclesToVblank → (p.frameCycle + j) % 70224 ≠ 65664 := by
  have bound := h.frameCycle_lt
  unfold Ppu.cyclesToVblank
  split <;> refine ⟨by omega, by omega, by omega, fun j _ _ => by omega⟩

/-- Settles O52: the place in the frame grows by one a cycle, modulo 70,224, and only the place 65,664 is a V-blank. -/
theorem framePeriod : Obligations.FramePeriod := by
  intro s h on
  obtain ⟨pos, le, enters, before⟩ := h.cyclesToVblank_spec
  generalize s.ppu.cyclesToVblank = d at pos le enters before
  obtain ⟨requests, complete, published⟩ := State.ppuAdvance_vblank h on pos enters
  obtain ⟨ok, lcd⟩ := State.ppuAdvance_on_screen h on d
  have start : (s.ppuAdvance d).ppu.frameCycle = 65664 := (State.ppuAdvance_frameCycle h on d).trans enters
  refine ⟨?_, d, pos, le, fun m less => ?before, requests, complete, published, fun m rest => ?after⟩
  · have again : (s.ppuAdvance 70224).ppu.frameCycle = s.ppu.frameCycle := by
      rw [State.ppuAdvance_frameCycle h on, Nat.add_mod_right, Nat.mod_eq_of_lt h.frameCycle_lt]
    obtain ⟨mode, line, cycles⟩ := (State.ppuAdvance_ok 70224 h).eq_of_frameCycle h again
    have split : s.ppuAdvance 70224 = (s.ppuAdvance d).ppuAdvance (70224 - d) := by
      rw [← State.ppuAdvance_add, Nat.add_sub_cancel' le]
    obtain ⟨requests', complete'⟩ := State.ppuAdvance_quiet ok lcd (vblank_once start (by omega : 70224 - d < 70224))
    exact ⟨mode, line, cycles, by rw [split, requests', requests], by rw [split, complete', complete]⟩
  case before => exact State.ppuAdvance_quiet h on fun j pos le => before j pos (by omega)
  case after =>
    have quiet := (State.ppuAdvance_quiet (s := { s.ppuAdvance d with irq := (s.ppuAdvance d).irq.acknowledge .vblank })
      ok lcd (vblank_once start (by omega : m < 70224))).1
    rw [quiet, requested, Irq.acknowledge_getLsbD _ _ (by decide)]
    simp

end Sys2Proof.Machine
end

section
/-! PROOFS. The joypad encoder and `setButton` (R450 to R452). -/

namespace Sys2Proof.Machine

open Sys2Proof.Claims

theorem State.read_p1 (s : State) : s.read 0xFF00 = s.joypad.p1 := rfl

/-- R450: the fields of P1. -/
theorem Joypad.p1_fields (j : Joypad) :
    j.p1.toNat / 16 = 12 + j.sel.toNat ∧ (∀ i, i < 4 → j.p1.getLsbD i = j.keys.getLsbD i) ∧
      j.p1.getLsbD 4 = j.sel.getLsbD 0 ∧ j.p1.getLsbD 5 = j.sel.getLsbD 1 := by
  unfold Joypad.p1
  generalize j.sel = sel, j.keys = keys
  revert sel keys
  decide

/-- R450: the order of the lines in a column, from bit 0. -/
theorem Buttons.directions_getLsbD (b : Buttons) :
    b.directions.getLsbD 0 = !b.right ∧ b.directions.getLsbD 1 = !b.left ∧ b.directions.getLsbD 2 = !b.up ∧
      b.directions.getLsbD 3 = !b.down := by
  unfold Buttons.directions
  cases b.right <;> cases b.left <;> cases b.up <;> cases b.down <;> decide

theorem Buttons.actions_getLsbD (b : Buttons) :
    b.actions.getLsbD 0 = !b.a ∧ b.actions.getLsbD 1 = !b.b ∧ b.actions.getLsbD 2 = !b.select ∧
      b.actions.getLsbD 3 = !b.start := by
  unfold Buttons.actions
  cases b.a <;> cases b.b <;> cases b.select <;> cases b.start <;> decide

/-- R450: a line of P1 is low when a selected column pulls it low. -/
theorem Joypad.key_low_iff (j : Joypad) {i : Nat} (h : i < 4) :
    j.keys.getLsbD i = false ↔
      (j.sel.getLsbD 0 = false ∧ j.pressed.directions.getLsbD i = false) ∨
        (j.sel.getLsbD 1 = false ∧ j.pressed.actions.getLsbD i = false) := by
  have ones : (0xF : BitVec 4).getLsbD i = true := by interval_cases i <;> rfl
  have column (off : Bool) (lines : BitVec 4) :
      (if !off then lines else 0xF).getLsbD i = (off || lines.getLsbD i) := by
    cases off with
    | false => rfl
    | true => exact ones
  rw [Joypad.keys, Joypad.directionsSelected, Joypad.actionsSelected, BitVec.getLsbD_and, column, column,
    Bool.and_eq_false_iff, Bool.or_eq_false_iff, Bool.or_eq_false_iff]

/-- R452: a button's column is selected when its bit of P1 reads 0. -/
theorem Joypad.columnSelected_eq (j : Joypad) (k : Button) :
    j.columnSelected k = !j.p1.getLsbD (if k.isDirection then 4 else 5) := by
  obtain ⟨-, -, four, five⟩ := j.p1_fields
  unfold Joypad.columnSelected
  cases k.isDirection with
  | true => exact congrArg (!·) four.symm
  | false => exact congrArg (!·) five.symm

theorem Buttons.get_set (b : Buttons) (k j : Button) (p : Bool) : (b.set k p).get j = if j = k then p else b.get j := by
  cases k <;> cases j <;> rfl

theorem extractLsb'_four_two (v : Byte) : v.extractLsb' 4 2 = BitVec.ofNat 2 (v.toNat / 16) := by
  apply BitVec.eq_of_toNat_eq
  simp [Nat.shiftRight_eq_div_pow]

/-- R452: the press, with the request on a released-to-pressed edge in a selected column. -/
theorem State.setButton_eq {s : State} (k : Button) (p : Bool) (cart : s.cart ≠ none) :
    s.setButton k p =
      { s with
        joypad := { s.joypad with pressed := s.joypad.pressed.set k p }
        irq := if p = true ∧ s.joypad.pressed.get k = false ∧
            s.joypad.p1.getLsbD (if k.isDirection then 4 else 5) = false
          then s.irq.request .joypad else s.irq } := by
  simp only [State.setButton, if_neg cart, Joypad.columnSelected_eq, Bool.and_eq_true, Bool.not_eq_true', and_assoc]
  generalize (if k.isDirection then 4 else 5) = bit
  split <;> rfl

/-- Settles O50: a key is low when a selected column has its button pressed, and a column is selected when its bit of P1 is
low. -/
theorem joypadEncoder : Obligations.JoypadEncoder := by
  refine ⟨by decide, fun k => by cases k <;> rfl, fun s => ?read, fun s v => ?write, fun s k p cart => if_pos cart,
    fun s k p cart => ?button⟩
  case read =>
    obtain ⟨high, keys, -⟩ := s.joypad.p1_fields
    obtain ⟨right, left, up, down⟩ := s.joypad.pressed.directions_getLsbD
    obtain ⟨a, b, select, start⟩ := s.joypad.pressed.actions_getLsbD
    rw [State.read_p1]
    refine ⟨high, ?_, ?_, ?_, ?_⟩ <;> rw [keys _ (by decide), s.joypad.key_low_iff (by decide)]
    · rw [right, a, Bool.not_eq_false', Bool.not_eq_false']
    · rw [left, b, Bool.not_eq_false', Bool.not_eq_false']
    · rw [up, select, Bool.not_eq_false', Bool.not_eq_false']
    · rw [down, start, Bool.not_eq_false', Bool.not_eq_false']
  case write =>
    rw [← extractLsb'_four_two]
    rfl
  case button =>
    rw [State.setButton_eq k p cart, State.read_p1]
    exact ⟨rfl, rfl, fun j => Buttons.get_set .., rfl⟩

end Sys2Proof.Machine
end

section
/-! PROOFS. The invariant of the APU over a step (R482, R483, R490, R492). -/

namespace Sys2Proof.Machine

open Sys2Proof.Claims

/-! ### Writes to the sound registers -/

/-- R483: the length counters are inside their ranges. -/
structure Apu.LengthsOk (a : Apu) : Prop where
  length1 : a.ch1.length ≤ 64
  length2 : a.ch2.length ≤ 64
  length3 : a.ch3.length ≤ 256
  length4 : a.ch4.length ≤ 64

theorem Apu.Ok.lengthsOk {a : Apu} {capacity : Nat} (h : a.Ok capacity) : a.LengthsOk :=
  ⟨h.length1, h.length2, h.length3, h.length4⟩

theorem reloadLength_le {length max : Nat} (h : length ≤ max) : reloadLength length max ≤ max := by
  unfold reloadLength
  split
  · exact Nat.le_refl max
  · exact h

/-- R481, R486: a write loads a length counter with its maximum at most, by NRx1 or by a trigger, or leaves it alone. -/
theorem Apu.soundEffect_lengthsOk {a : Apu} (scale : NoiseScale) (k : SoundReg) (v : Byte) (h : a.LengthsOk) :
    (Apu.soundEffect scale a k v).LengthsOk := by
  have frame := Apu.soundEffect_frame scale a k v
  refine ⟨?ch1, ?ch2, ?ch3, ?ch4⟩
  case ch1 =>
    obtain same | rfl | rfl | rfl := frame.ch1
    · exact same ▸ h.length1
    · exact Nat.sub_le ..
    · rw [Apu.soundEffect_nr12]
      exact h.length1
    · show (if v.getLsbD 7 then a.trigger1 else a).ch1.length ≤ 64
      split
      · rw [Apu.trigger1_ch1]
        exact reloadLength_le h.length1
      · exact h.length1
  case ch2 =>
    obtain same | rfl | rfl | rfl := frame.ch2
    · exact same ▸ h.length2
    · exact Nat.sub_le ..
    · rw [Apu.soundEffect_nr22]
      exact h.length2
    · show (if v.getLsbD 7 then a.trigger2 else a).ch2.length ≤ 64
      split
      · exact reloadLength_le h.length2
      · exact h.length2
  case ch3 =>
    obtain same | rfl | rfl | rfl := frame.ch3
    · exact same ▸ h.length3
    · rw [Apu.soundEffect_nr30]
      exact h.length3
    · exact Nat.sub_le ..
    · show (if v.getLsbD 7 then a.trigger3 else a).ch3.length ≤ 256
      split
      · exact reloadLength_le h.length3
      · exact h.length3
  case ch4 =>
    obtain same | rfl | rfl | rfl := frame.ch4
    · exact same ▸ h.length4
    · exact Nat.sub_le ..
    · rw [Apu.soundEffect_nr42]
      exact h.length4
    · show (if v.getLsbD 7 then a.trigger4 scale else a).ch4.length ≤ 64
      split
      · exact reloadLength_le h.length4
      · exact h.length4

theorem Apu.writeSound_ok {a : Apu} {capacity : Nat} (scale : NoiseScale) (k : SoundReg) (v : Byte) (h : a.Ok capacity) :
    (Apu.writeSound scale a k v).Ok capacity := by
  unfold Apu.writeSound
  split
  next on =>
    have frame := Apu.soundEffect_frame scale { a with regs := a.regs.set k v } k v
    obtain ⟨length1, length2, length3, length4⟩ :=
      Apu.soundEffect_lengthsOk (a := { a with regs := a.regs.set k v }) scale k v
        ⟨h.length1, h.length2, h.length3, h.length4⟩
    generalize Apu.soundEffect scale { a with regs := a.regs.set k v } k v = t at *
    have power : t.power = true := (congrArg Apu.power frame.rest).trans on
    exact {
      fsAcc := (congrArg Apu.fsAcc frame.rest).symm ▸ h.fsAcc
      length1, length2, length3, length4
      sampleAcc := (congrArg Apu.sampleAcc frame.rest).symm ▸ h.sampleAcc
      samples := (congrArg Apu.samples frame.rest).symm ▸ h.samples
      off := fun off => absurd (off.symm.trans power) (by decide) }
  next => exact h

/-- R490: a write to NR52 that keeps the power changes nothing. -/
theorem Apu.writeNr52_kept {a : Apu} {v : Byte} (same : a.power = v.getLsbD 7) : a.writeNr52 v = a := by
  unfold Apu.writeNr52
  rw [same]
  cases v.getLsbD 7 <;> rfl

theorem Apu.writeNr52_ok {a : Apu} {capacity : Nat} (v : Byte) (h : a.Ok capacity) : (a.writeNr52 v).Ok capacity := by
  cases power : a.power <;> cases bit : v.getLsbD 7
  case true.false =>
    rw [Apu.writeNr52_off power bit]
    exact { h with off := fun _ => ⟨⟨rfl, rfl, rfl, rfl⟩, rfl⟩ }
  case false.true =>
    rw [Apu.writeNr52_on power bit]
    exact { h with fsAcc := Nat.zero_lt_succ _, off := nofun }
  all_goals rwa [Apu.writeNr52_kept (power.trans bit.symm)]

theorem State.writeIo_apuOk {s : State} (r : IoReg) (a : Word) (v : Byte) (h : s.apu.Ok s.config.bufferCapacity) :
    (s.writeIo r a v).apu.Ok (s.writeIo r a v).config.bufferCapacity := by
  rw [(s.writeIo_untouched r a v).config]
  cases r
  case sound k => exact Apu.writeSound_ok s.config.noiseScale k v h
  case nr52 => exact Apu.writeNr52_ok v h
  case lcdc | stat | ly | lyc | dma =>
    rw [(s.writeIo_video a v ?_).2]
    · exact h
    · decide
  all_goals exact h

/-! ### The advance -/

/-- What the sequencer's clocks leave alone. -/
def Apu.keptBySequencer (a : Apu) : Bool × Nat × List Sample := (a.power, a.sampleAcc, a.samples)

theorem Apu.clockSweep_keeps (a : Apu) : a.clockSweep.keptBySequencer = a.keptBySequencer := by
  have tested (t : Apu) : t.sweepOverflowTest.keptBySequencer = t.keptBySequencer := by
    unfold Apu.sweepOverflowTest
    split <;> rfl
  unfold Apu.clockSweep
  dsimp only
  split
  · split
    · split
      · rfl
      · split
        · rfl
        · exact tested _
    · rfl
  · rfl

theorem Apu.clockSequencer_keeps (a : Apu) : a.clockSequencer.keptBySequencer = a.keptBySequencer := by
  have stepped (t : Apu) (x : BitVec 3) : Apu.keptBySequencer { t with fsStep := x } = t.keptBySequencer := rfl
  unfold Apu.clockSequencer
  dsimp only
  rw [stepped]
  split
  case h_2 | h_4 => exact Apu.clockSweep_keeps _
  all_goals rfl

theorem lengthAfter_le (tick on : Bool) (length : Nat) : lengthAfter tick on length ≤ length := by
  unfold lengthAfter
  split
  · exact Nat.sub_le ..
  · exact Nat.le_refl _

/-- R483: a clock of the sequencer lets no length counter grow. -/
theorem Apu.clockSequencer_lengthsOk {a : Apu} (h : a.LengthsOk) : a.clockSequencer.LengthsOk := by
  have clocked := a.clockSequencer_clocked
  exact ⟨clocked.length1 ▸ (lengthAfter_le ..).trans h.length1, clocked.length2 ▸ (lengthAfter_le ..).trans h.length2,
    clocked.length3 ▸ (lengthAfter_le ..).trans h.length3, clocked.length4 ▸ (lengthAfter_le ..).trans h.length4⟩

theorem iterate_keeps {α : Type} {P : α → Prop} {f : α → α} (step : ∀ x, P x → P (f x)) (k : Nat) {x : α}
    (h : P x) : P (iterate f k x) := by
  induction k generalizing x with
  | zero => exact h
  | succ k ih => exact ih (step x h)

theorem Apu.advanceSequencer_ok {a : Apu} {capacity : Nat} (n : Nat) (h : a.Ok capacity) :
    (a.advanceSequencer n).Ok capacity := by
  unfold Apu.advanceSequencer
  split
  next on =>
    have clocked := iterate_keeps (P := fun t : Apu => t.LengthsOk ∧ t.keptBySequencer = a.keptBySequencer)
      (fun t ht => ⟨Apu.clockSequencer_lengthsOk ht.1, t.clockSequencer_keeps.trans ht.2⟩) ((a.fsAcc + n) / 8192)
      ⟨h.lengthsOk, rfl⟩
    generalize iterate Apu.clockSequencer ((a.fsAcc + n) / 8192) a = t at clocked
    obtain ⟨⟨length1, length2, length3, length4⟩, kept⟩ := clocked
    simp only [Apu.keptBySequencer, Prod.mk.injEq] at kept
    obtain ⟨power, sampleAcc, samples⟩ := kept
    exact {
      fsAcc := Nat.mod_lt _ (by decide)
      length1, length2, length3, length4
      sampleAcc := sampleAcc.symm ▸ h.sampleAcc
      samples := samples.symm ▸ h.samples
      off := fun off => absurd (off.symm.trans (power.trans on)) (by decide) }
  next => exact h

/-- R487 to R489: the channel timers bear on none of it. -/
theorem Apu.advanceChannels_ok {a : Apu} {capacity : Nat} (scale : NoiseScale) (n : Nat) (h : a.Ok capacity) :
    (a.advanceChannels scale n).Ok capacity := by
  obtain ⟨length, enabled⟩ := a.ch4.advance_kept scale a.regs.nr43 n
  exact { h with
    length4 := length.symm ▸ h.length4
    off := fun off => by
      obtain ⟨⟨off1, off2, off3, off4⟩, regs⟩ := h.off off
      exact ⟨⟨off1, off2, off3, enabled.trans off4⟩, regs⟩ }

/-- R492: the buffer holds no more than its capacity. -/
theorem pushSample_length_le (capacity : Nat) (x : Sample) (buffer : List Sample) :
    (pushSample capacity x buffer).length ≤ capacity := by
  simp only [pushSample, List.length_drop, List.length_append, List.length_singleton]
  omega

theorem Apu.produceSamples_ok {a : Apu} {c : Config} (mem : Memory) (n : Nat) (h : a.Ok c.bufferCapacity) :
    (a.produceSamples c mem n).Ok c.bufferCapacity :=
  { h with
    sampleAcc := Nat.mod_lt _ (by decide)
    samples := iterate_keeps (P := fun buffer => buffer.length ≤ c.bufferCapacity)
      (fun buffer _ => pushSample_length_le c.bufferCapacity _ buffer) _ h.samples }

theorem State.apuAdvance_ok {s : State} (n : Nat) (h : s.apu.Ok s.config.bufferCapacity) :
    (s.apuAdvance n).apu.Ok s.config.bufferCapacity :=
  Apu.produceSamples_ok s.mem n (Apu.advanceChannels_ok s.config.noiseScale n (Apu.advanceSequencer_ok n h))

/-- Settles O59: a step is made of CPU changes, bus writes and the devices' advance, and of the writes only those to the
sound registers touch the APU. -/
theorem stepKeepsApu : Obligations.StepKeepsApu := by
  intro s t h ok
  refine step_keeps (P := fun u => u.apu.Ok u.config.bufferCapacity) h (fun _ _ _ hu => hu) (fun u a v hu => ?_)
    (fun _ _ hu => hu) (fun u n hu => ?_) ok
  · exact State.write_keeps (P := fun u => u.apu.Ok u.config.bufferCapacity) hu (fun _ => hu) (fun _ => hu) (fun _ => hu)
      (fun r => State.writeIo_apuOk r a v hu)
  · rw [State.advanceDevices_apu, State.advanceDevices_config]
    exact State.apuAdvance_ok n hu

end Sys2Proof.Machine
end

section
/-! PROOFS. The machine at reset, and what the host's `reset()` keeps (R49, R131, R520). -/

namespace Sys2Proof.Machine

/-! ### The invariants at reset -/

/-- R460, R467: the PPU at reset is at the first cycle of the frame, with blank pictures and the STAT line low. -/
theorem Ppu.reset_ok (shades : Shades) : (Ppu.reset shades).Ok := by
  have shaped : (Ppu.reset shades).Shaped := {
    sprites := ⟨Nat.zero_le _, fun _ listed => absurd listed List.not_mem_nil⟩
    bgIndex := List.length_replicate ..
    work := blankFrame_shape shades.s0
    output := blankFrame_shape shades.s0 }
  have on : (Ppu.reset shades).lcdOn = true := (by decide : (0x91 : Byte).getLsbD 7 = true)
  have low : (Ppu.reset shades).statLevel = false := by simp [Ppu.statLevel, Ppu.reset]
  exact shaped.ok_at_start rfl rfl PpuMode.noConfusion (fun off => absurd (off.symm.trans on) Bool.noConfusion) low.symm

/-- R480: at reset every counter of the APU is 0 and the power is on, so it is legal for any buffer. -/
theorem Apu.reset_ok (capacity : Nat) : Apu.reset.Ok capacity where
  fsAcc := by decide
  length1 := Nat.zero_le _
  length2 := Nat.zero_le _
  length3 := Nat.zero_le _
  length4 := Nat.zero_le _
  sampleAcc := by decide
  samples := Nat.zero_le _
  off unpowered := Bool.noConfusion unpowered

/-- Settles O39: memory lists nothing, no cartridge is in and nothing is counted, and each device is legal at reset. -/
theorem resetMeetsInvariants : Obligations.ResetMeetsInvariants where
  mem := ⟨Memory.wf_nil, fun _ listed => absurd listed List.not_mem_nil⟩
  cart _ loaded := nomatch loaded
  cpu := ⟨rfl, by decide, by decide⟩
  timer := by decide
  ppu := Ppu.reset_ok _
  apu := Apu.reset_ok _
  accounted := rfl

/-! ### Memory after `reset()` -/

/-- The entries kept by their address read as before. -/
theorem Memory.read_filter (m : Memory) {keep : Nat → Bool} {a : Nat} (kept : keep a = true) :
    Memory.read (m.filter fun cell => keep cell.1) a = m.read a := by
  induction m with
  | nil => rfl
  | cons head rest ih =>
    obtain ⟨k, v⟩ := head
    by_cases here : a = k
    · subst here
      simp [kept]
    · cases h : keep k <;> simp [h, here, ih]

/-- R47: the addresses 0xFF30..0xFF3F are the wave RAM's. -/
theorem ioRegAt_of_waveRam : ∀ n < 0x40, 0x30 ≤ n → ioRegAt n = .waveRam := by decide

/-- R47, R49: a read of the wave RAM gives the stored byte. -/
theorem State.read_waveRam (s : State) {a : Word} (lo : 0xFF30 ≤ a.toNat) (hi : a.toNat < 0xFF40) :
    s.read a = s.mem.read a.toNat := by
  have region : regionOf a = .io := (regionOf_eq_iff a .io).mpr (by simp only [Region.bounds]; omega)
  have reg : ioReg a = .waveRam := ioRegAt_of_waveRam (a.toNat % 0x100) (by omega) (by omega)
  rw [State.read_io region, reg]
  rfl

/-- R49, R520: after `reset()` an internal memory holds `RAM_INIT`. -/
theorem State.hostReset_mem_read (s : State) {a : Nat} (internal : isInternalRam a = true) :
    s.hostReset.mem.read a = s.config.ramInit.read a :=
  Memory.read_filter s.config.ramInit internal

theorem State.hostReset_cart {s : State} {k : Cart} (h : s.cart = some k) :
    s.hostReset.cart = some (k.reset s.config.extRamInit) := by
  rw [State.hostReset, h]
  rfl

/-- Settles O40: the parts are those of `hostReset`; a memory reads from the image filtered to the internal addresses. -/
theorem hostReset : Obligations.HostReset := by
  intro s
  refine ⟨rfl, rfl, rfl, rfl, rfl, rfl, rfl, rfl, rfl, rfl, rfl, rfl, rfl, fun a memory => ?memory, fun k cart => ?cart⟩
  case cart => exact ⟨_, State.hostReset_cart cart, rfl, rfl, rfl, rfl, rfl, rfl, rfl, rfl⟩
  case memory =>
    by_cases wave : 0xFF30 ≤ a.toNat ∧ a.toNat < 0xFF40
    · have internal : isInternalRam a.toNat = true := by simp [isInternalRam, wave]
      rw [State.read_waveRam _ wave.1 wave.2, s.hostReset_mem_read internal]
    · have plain : regionOf a = .vram ∨ regionOf a = .wram ∨ regionOf a = .oam ∨ regionOf a = .hram := by tauto
      rw [State.read_mem plain, s.hostReset_mem_read (isInternalRam_of_region rfl plain)]

end Sys2Proof.Machine
end

section
/-! PROOFS. The cycles a frame accounts for (R401, R530, R531). -/

namespace Sys2Proof.Machine

/-! ### One step of the frame -/

/-- R401, R530, R531: from `s` to `t` the machine goes on by `4 * n` cycles, at most 24, all added to `frameAcc`, and none
exactly when it is faulted after them. -/
structure FrameStep (n : Nat) (s t : State) : Prop where
  cart    : t.cart ≠ none
  cycles  : t.cpu.cycles = s.cpu.cycles + 4 * n
  acc     : t.frameAcc = s.frameAcc + 4 * n
  total   : t.frameTotal = s.frameTotal
  short   : n ≤ 6
  faulted : n = 0 ↔ t.cpu.fault ≠ none

/-- A step keeps a cartridge in the machine. -/
theorem step_cart_ne_none {s t : State} (h : step s = .next t) (cart : s.cart ≠ none) : t.cart ≠ none := by
  obtain ⟨-, -, kept⟩ := stepKeepsCartridge s t h
  intro gone
  rw [gone] at kept
  exact cart (Option.map_eq_none_iff.mp kept.symm)

/-- The host's step with a cartridge in the machine is a frame step: the CPU's cycles are what the devices advance by. -/
theorem systemStep_frameStep {s : State} (cart : s.cart ≠ none) : ∃ t n, systemStep s = .next t ∧ FrameStep n s t := by
  obtain ⟨u, ran, cases⟩ := cpuStep_next s
  obtain ⟨n, cycles, short, faulted⟩ := stepCycles s u ran
  obtain ⟨acc, total⟩ := cases.frame_eq
  have next : systemStep s = .next (u.advanceBy (4 * n)) := by
    simp only [systemStep, if_neg cart, ran, cycles, Nat.add_sub_cancel_left]
  exact ⟨_, n, next, {
    cart := step_cart_ne_none next cart
    cycles := by rw [State.advanceBy_cpu, cycles]
    acc := by rw [State.advanceBy_frameAcc, acc]
    total := by rw [State.advanceBy_frameTotal, total]
    short
    faulted := by rw [State.advanceBy_cpu, faulted] }⟩

/-! ### The loop -/

/-- R530: how the frame's loop ends: with `frameAcc` past 70,224 by less than one instruction, or in a fault; the cycles
stay accounted for. -/
structure FrameEnds (s : State) (reached : Bool) (t : State) : Prop where
  total   : t.frameTotal = s.frameTotal
  account : s.cpu.cycles = s.frameTotal + s.frameAcc → t.cpu.cycles = t.frameTotal + t.frameAcc
  full    : reached = true → 70224 ≤ t.frameAcc ∧ t.frameAcc < 70224 + 24
  faulted : reached = false → t.cpu.fault ≠ none

/-- A loop that turns no more ends where it is. -/
theorem FrameEnds.here {s : State} (full : 70224 ≤ s.frameAcc) (short : s.frameAcc < 70224 + 24) : FrameEnds s true s :=
  ⟨rfl, id, fun _ => ⟨full, short⟩, Bool.noConfusion⟩

theorem FrameStep.account {n : Nat} {s t : State} (h : FrameStep n s t)
    (account : s.cpu.cycles = s.frameTotal + s.frameAcc) : t.cpu.cycles = t.frameTotal + t.frameAcc := by
  rw [h.cycles, h.acc, h.total, account, Nat.add_assoc]

/-- A turn that counts no cycles ends the loop in a fault. -/
theorem FrameStep.ends {s t : State} (h : FrameStep 0 s t) : FrameEnds s false t :=
  ⟨h.total, h.account, Bool.noConfusion, fun _ => h.faulted.mp rfl⟩

/-- A turn before a loop that ends. -/
theorem FrameStep.before {n : Nat} {s t u : State} {reached : Bool} (h : FrameStep n s t) (g : FrameEnds t reached u) :
    FrameEnds s reached u :=
  ⟨g.total.trans h.total, g.account ∘ h.account, g.full, g.faulted⟩

/-- R530: every turn that goes on counts at least 4 cycles, so `k` turns are enough for the `4 * k` cycles left. -/
theorem runFrameLoop_ends (k : Nat) {s : State} (cart : s.cart ≠ none) (enough : 70224 ≤ s.frameAcc + 4 * k)
    (short : s.frameAcc < 70224 + 24) : ∃ reached t, runFrameLoop k s = .next (reached, t) ∧ FrameEnds s reached t := by
  induction k generalizing s with
  | zero => exact ⟨true, s, rfl, .here enough short⟩
  | succ k ih =>
    rw [runFrameLoop]
    by_cases more : s.frameAcc < 70224
    · obtain ⟨t, n, next, turn⟩ := systemStep_frameStep cart
      have cycles := turn.cycles
      have acc := turn.acc
      have small := turn.short
      rw [if_pos more, next]
      by_cases stuck : n = 0
      · subst stuck
        exact ⟨false, t, if_pos cycles, turn.ends⟩
      · obtain ⟨reached, u, ran, ends⟩ := ih turn.cart (by omega) (by omega)
        exact ⟨reached, u, (if_neg (by omega)).trans ran, turn.before ends⟩
    · exact ⟨true, s, if_neg more, .here (Nat.not_lt.mp more) short⟩

/-! ### The frame -/

/-- R530: `n` cycles moved from `frameAcc` to `frameTotal`, as the end of a frame moves 70,224. The count is a variable so
that the kernel never unfolds the numeral. -/
def State.moveCycles (s : State) (n : Nat) : State := { s with frameAcc := s.frameAcc - n, frameTotal := s.frameTotal + n }

section
variable (s : State) (n : Nat)

@[simp] theorem State.moveCycles_cpu : (s.moveCycles n).cpu = s.cpu := rfl

@[simp] theorem State.moveCycles_frameAcc : (s.moveCycles n).frameAcc = s.frameAcc - n := rfl

@[simp] theorem State.moveCycles_frameTotal : (s.moveCycles n).frameTotal = s.frameTotal + n := rfl

end

/-- R530: with a cartridge and no fault, `runFrame` is the loop, then the end of the frame unless a fault came first. -/
theorem State.runFrame_ends {s : State} (cart : s.cart ≠ none) (fault : s.cpu.fault = none)
    (short : s.frameAcc < 70224) :
    (∃ t, s.runFrame = .next (t.moveCycles 70224) ∧ FrameEnds s true t) ∨
      ∃ t, s.runFrame = .next t ∧ FrameEnds s false t := by
  have runs : ¬(s.cart = none ∨ s.cpu.fault.isSome = true) := by simp [cart, fault]
  obtain ⟨reached, t, ran, total, account, full, faulted⟩ :=
    runFrameLoop_ends 17556 (s := { s with ppu := { s.ppu with frameComplete := false } }) cart (by omega)
      (Nat.lt_add_right 24 short)
  have ends : FrameEnds s reached t := ⟨total, account, full, faulted⟩
  rw [State.runFrame, if_neg runs, ran]
  cases reached with
  | true => exact .inl ⟨t, rfl, ends⟩
  | false => exact .inr ⟨t, rfl, ends⟩

/-- Settles O60: moving 70,224 cycles from `frameAcc` to `frameTotal` keeps the account, and what `frameAcc` holds beyond
them is less than one instruction. -/
theorem frameAccounting : Obligations.FrameAccounting := by
  intro s cart fault account short
  obtain ⟨t, ran, ends⟩ | ⟨t, ran, ends⟩ := State.runFrame_ends cart fault short
  · obtain ⟨reached, carried⟩ := ends.full rfl
    have accounted := ends.account account
    refine ⟨_, ran, ?account, fun _ => ⟨?total, ?carried⟩⟩
    case account =>
      rw [State.moveCycles_cpu, State.moveCycles_frameTotal, State.moveCycles_frameAcc]
      omega
    case total => rw [State.moveCycles_frameTotal, ends.total]
    case carried =>
      rw [State.moveCycles_frameAcc]
      omega
  · exact ⟨t, ran, ends.account account, fun none => absurd none (ends.faulted rfl)⟩

end Sys2Proof.Machine
end
